-- ==== Sys2Proof/Word.lean ====
section
/-! DEFINITION. Word.lean: the units the block moves and decodes (R6, R54, R76, R79, R85), with the plainest
facts about their widths. -/

namespace Sys2Proof

/-- R6: an unsigned 8-bit value; the only unit the Transport moves (R54). -/
abbrev Byte := BitVec 8

/-- R76: one script-ROM entry. -/
abbrev StepWord := BitVec 24

/-- R79: one word of the command port. -/
abbrev CmdWord := BitVec 35

/-- R85: the two fixed-length units that are decoded: a script-ROM word and a command word. -/
inductive Encoded where
  | step (w : StepWord)
  | command (w : CmdWord)
  deriving DecidableEq, Repr

/-- R70: the CommandPayload `[high, low, reserved, sign]`. -/
abbrev Payload := Vector Byte 4

/-- R71: the QueryResponse `[byte1, byte2, byte3]`. -/
abbrev Response := Vector Byte 3

end Sys2Proof
end

