-- ==== Sys2Proof/Syntax.lean ====
section
/-! DEFINITION. Syntax.lean: the instructions, one constructor per row of spec/opcode_table.json: the five kinds
of handshake step (R75) and the four commands (R79). -/

namespace Sys2Proof

/-- The block's instruction set (R1). -/
inductive Instr where
  /-- R137: write the literal `b`, read one byte and discard it. -/
  | ack (b : Byte)
  /-- R138: `ack` of payload register `i`. -/
  | ackp (i : Fin 4)
  /-- R139, R140: write `b` once, then read until `e` or a timeout. -/
  | poll (b e : Byte)
  /-- R141: write `b`, read nothing. -/
  | write (b : Byte)
  /-- R142, R143: read one byte into capture register `i` and echo it. -/
  | capture (i : Fin 3)
  /-- R160: `arg` is the current in signed milliamps. -/
  | encode (arg : BitVec 32)
  /-- R161: three response bytes; `ign` is `arg[31:24]`, which the command ignores (R84). -/
  | decode (ign b1 b2 b3 : Byte)
  /-- R162: `arg` is the current in signed milliamps. -/
  | setCurrent (arg : BitVec 32)
  /-- R163: `ign` is `arg[31:0]`, which the command ignores (R84). -/
  | stopQuery (ign : BitVec 32)
  deriving DecidableEq, Repr

/-- R1, R75: the instruction is a handshake step, which stands in the script ROM. -/
def Instr.isStep : Instr → Bool
  | .ack _ => true
  | .ackp _ => true
  | .poll _ _ => true
  | .write _ => true
  | .capture _ => true
  | .encode _ => false
  | .decode _ _ _ _ => false
  | .setCurrent _ => false
  | .stopQuery _ => false

end Sys2Proof
end

