-- ==== Sys2Proof/WellFormed.lean ====
section
/-! DEFINITION. WellFormed.lean: which words have a meaning (R76, R79, R83, R84), stated field by field. The
operands of an `Instr` are bounded by their types (an index of CAPTURE is below 3), so an `Instr` cannot be
ill-formed; words can. -/

namespace Sys2Proof

/-- R76, R83: `kind` is one of 000 to 100. -/
def StepWord.kindOk (w : StepWord) : Bool := decide ((w.extractLsb' 21 3).toNat ≤ 4)

/-- R76: bits 20:18 must be 000. -/
def StepWord.zeroOk (w : StepWord) : Bool := w.extractLsb' 18 3 == 0

/-- R76, R83: `idx` is free for ACKP, not 3 for CAPTURE, and 00 for the other kinds. -/
def StepWord.idxOk (w : StepWord) : Bool :=
  match (w.extractLsb' 21 3).toNat with
  | 1 => true
  | 4 => w.extractLsb' 16 2 != 3
  | _ => w.extractLsb' 16 2 == 0

/-- R76: `wbyte` must be 0x00 for ACKP and CAPTURE. -/
def StepWord.wbyteOk (w : StepWord) : Bool :=
  match (w.extractLsb' 21 3).toNat with
  | 1 => w.extractLsb' 8 8 == 0
  | 4 => w.extractLsb' 8 8 == 0
  | _ => true

/-- R76: `expect` must be 0x00 for every kind but POLL. -/
def StepWord.expectOk (w : StepWord) : Bool :=
  match (w.extractLsb' 21 3).toNat with
  | 2 => true
  | _ => w.extractLsb' 0 8 == 0

/-- R76, R83: the step word is not reserved. -/
def StepWord.wellFormed (w : StepWord) : Bool :=
  w.kindOk && w.zeroOk && w.idxOk && w.wbyteOk && w.expectOk

/-- R79, R84: the command word's `op` is not reserved. -/
def CmdWord.wellFormed (w : CmdWord) : Bool :=
  1 ≤ (w.extractLsb' 32 3).toNat && (w.extractLsb' 32 3).toNat ≤ 4

/-- The word has a meaning. -/
def Encoded.wellFormed : Encoded → Bool
  | .step w => StepWord.wellFormed w
  | .command w => CmdWord.wellFormed w

end Sys2Proof
end

