-- ==== Sys2Proof/Decode.lean ====
section
/-! DEFINITION. Decode.lean: the decoder of step words and command words (R76, R79, R80), which rejects a reserved
word by name, and after it the encoder, written from the same tables. -/

namespace Sys2Proof

/-- Why a word has no instruction (R83, R84). -/
inductive Reject where
  /-- R83: step-word `kind` 101, 110 or 111. -/
  | reservedKind
  /-- R76: step-word bits 20:18 not 000. -/
  | zeroBits
  /-- R76, R83: `idx` 3 of CAPTURE, or a non-zero `idx` of a kind without an index. -/
  | badIdx
  /-- R76: a non-zero `wbyte` of ACKP or CAPTURE. -/
  | badWbyte
  /-- R76: a non-zero `expect` of a kind other than POLL. -/
  | badExpect
  /-- R84: command opcode 000, 101, 110 or 111. -/
  | reservedOpcode
  deriving DecidableEq, Repr

/-- What decoding answers. -/
inductive Decoded where
  | instr (i : Instr)
  | reject (why : Reject)
  deriving DecidableEq, Repr

/-- The instruction of an accepted word. -/
def Decoded.toOption : Decoded → Option Instr
  | .instr i => some i
  | .reject _ => none

/-! ### Fields -/

/-- R76: step-word bits 23:21. -/
def stepKind (w : StepWord) : BitVec 3 := w.extractLsb' 21 3

/-- R76: step-word bits 20:18. -/
def stepZero (w : StepWord) : BitVec 3 := w.extractLsb' 18 3

/-- R76, R80 (d): step-word bits 17:16, unsigned. -/
def stepIdx (w : StepWord) : BitVec 2 := w.extractLsb' 16 2

/-- R76: step-word bits 15:8. -/
def stepWbyte (w : StepWord) : Byte := w.extractLsb' 8 8

/-- R76: step-word bits 7:0. -/
def stepExpect (w : StepWord) : Byte := w.extractLsb' 0 8

/-- R79: command-word bits 34:32. -/
def cmdOp (w : CmdWord) : BitVec 3 := w.extractLsb' 32 3

/-- R79: command-word bits 31:0. -/
def cmdArg (w : CmdWord) : BitVec 32 := w.extractLsb' 0 32

/-! ### The decoder -/

/-- The check of a must-be-zero field: the instruction where it holds, the named rejection where it fails. -/
def requireZero (ok : Bool) (why : Reject) (d : Decoded) : Decoded :=
  if ok then d else .reject why

/-- R76, R83: the step of a step word. -/
def decodeStepWord (w : StepWord) : Decoded :=
  let idx0 := requireZero (stepIdx w == 0) .badIdx
  let wbyte0 := requireZero (stepWbyte w == 0) .badWbyte
  let expect0 := requireZero (stepExpect w == 0) .badExpect
  match (stepKind w).toNat with
  | 0 => requireZero (stepZero w == 0) .zeroBits (idx0 (expect0 (.instr (.ack (stepWbyte w)))))
  | 1 => requireZero (stepZero w == 0) .zeroBits
      (wbyte0 (expect0 (.instr (.ackp ⟨(stepIdx w).toNat, (stepIdx w).isLt⟩))))
  | 2 => requireZero (stepZero w == 0) .zeroBits (idx0 (.instr (.poll (stepWbyte w) (stepExpect w))))
  | 3 => requireZero (stepZero w == 0) .zeroBits (idx0 (expect0 (.instr (.write (stepWbyte w)))))
  | 4 => requireZero (stepZero w == 0) .zeroBits
      (wbyte0 (expect0 (if h : (stepIdx w).toNat < 3 then .instr (.capture ⟨(stepIdx w).toNat, h⟩)
        else .reject .badIdx)))
  | _ => .reject .reservedKind

/-- R79, R80, R84: the command of a command word. -/
def decodeCmdWord (w : CmdWord) : Decoded :=
  match (cmdOp w).toNat with
  | 1 => .instr (.encode (cmdArg w))
  | 2 => .instr (.decode ((cmdArg w).extractLsb' 24 8) ((cmdArg w).extractLsb' 16 8)
      ((cmdArg w).extractLsb' 8 8) ((cmdArg w).extractLsb' 0 8))
  | 3 => .instr (.setCurrent (cmdArg w))
  | 4 => .instr (.stopQuery (cmdArg w))
  | _ => .reject .reservedOpcode

/-- The instruction of a word. -/
def decodeWord : Encoded → Decoded
  | .step w => decodeStepWord w
  | .command w => decodeCmdWord w

/-! ### The encoder -/

/-- R76: a step word from its fields, the zero field 000. -/
def packStep (kind : BitVec 3) (idx : BitVec 2) (wbyte expect : Byte) : StepWord :=
  kind ++ 0#3 ++ idx ++ wbyte ++ expect

/-- R79: a command word from its fields. -/
def packCmd (op : BitVec 3) (arg : BitVec 32) : CmdWord := op ++ arg

/-- R76, R79: the word of an instruction. -/
def encodeInstr : Instr → Encoded
  | .ack b => .step (packStep 0b000#3 0#2 b 0#8)
  | .ackp i => .step (packStep 0b001#3 (BitVec.ofNat 2 i.val) 0#8 0#8)
  | .poll b e => .step (packStep 0b010#3 0#2 b e)
  | .write b => .step (packStep 0b011#3 0#2 b 0#8)
  | .capture i => .step (packStep 0b100#3 (BitVec.ofNat 2 i.val) 0#8 0#8)
  | .encode arg => .command (packCmd 0b001#3 arg)
  | .decode ign b1 b2 b3 => .command (packCmd 0b010#3 (ign ++ b1 ++ b2 ++ b3))
  | .setCurrent arg => .command (packCmd 0b011#3 arg)
  | .stopQuery ign => .command (packCmd 0b100#3 ign)

/-- The bits of a word as one number, bit 0 the least significant (the numbering of spec/opcode_table.json). -/
def Encoded.bits : Encoded → Nat
  | .step w => w.toNat
  | .command w => w.toNat

/-- R85: the width of a word. -/
def Encoded.width : Encoded → Nat
  | .step _ => 24
  | .command _ => 35

/-! ### Words as the opcode table numbers them -/

/-- The word whose bits are `w`: a step word where the table gives the row at most 24 bits, else a command word;
none where `w` has a bit above the word. -/
def tableWord (nbits w : Nat) : Option Encoded :=
  if nbits ≤ 24 then (if w < 2 ^ 24 then some (.step (BitVec.ofNat 24 w)) else none)
  else if w < 2 ^ 35 then some (.command (BitVec.ofNat 35 w)) else none

/-- The instruction the decoder reads from the word whose bits are `w`. -/
def decodeTableWord (nbits w : Nat) : Option Instr :=
  match tableWord nbits w with
  | some e => (decodeWord e).toOption
  | none => none

end Sys2Proof
end

