-- ==== Sys2Proof/Config.lean ====
section
/-! DEFINITION. Config.lean: the parameters of R5, and the values the spec leaves open. A constant declared
`opaque` here has no body: nothing in Lean can prove a value of it. -/

namespace Sys2Proof

/-- R14: what a `TxRead()` returns. -/
inductive Answer where
  | byte (v : Byte)
  | timeout
  deriving DecidableEq, Repr, Inhabited

/-- R144: a bound `n >= 1` on the reads of one POLL step. -/
structure PollBound where
  n : Nat
  pos : 1 ≤ n
  deriving DecidableEq, Repr

/-- The data registers whose value a reset leaves unspecified (R38, U10). -/
structure DataRegs where
  pay : Payload
  cap : Response
  resMag : BitVec 16
  resNeg : Bool
  deriving DecidableEq, Repr, Inhabited

/-- R74: the `expected` operand of every POLL of the two scripts. No rule of the block reads it from here; the
scripts' words hold it. -/
abbrev Config.expect : Byte := 0x12

/-- R5, D14: `POLL_MAX_READS`, the one parameter the spec leaves OPEN: `none` (unbounded) or `some n`. It is
constant in one block; the state carries it so that every statement ranges over every value of it (log entry 1). -/
opaque Config.pollMaxReads : Option PollBound

/-- R66, D22: the answer to a read when the state lists no further answer of the environment: a free value, fresh
for every value of the counter it is applied to (log entry 2). -/
opaque Config.freeAnswer : Nat → Answer

/-- R230, U10: what the unspecified data registers hold after a reset: a free value, fresh for every value of the
counter it is applied to; 0 is the reset the machine begins with (log entries 3 and 4). -/
opaque Config.unspecifiedData : Nat → DataRegs

end Sys2Proof
end

