-- ==== Sys2Proof/Machine/State.lean ====
section
/-! DEFINITION. Machine/State.lean: everything the spec gives the block as state (R20 to R38), the model's input
fields, the reasons a step can stop, and the state after reset. -/

namespace Sys2Proof.Machine

/-- R26: the running script. The code 3 never occurs and has no constructor (U14). -/
inductive Script where
  /-- No script runs; the block accepts a command. -/
  | idle
  /-- The start sequence (R77). -/
  | start
  /-- The stop-and-query sequence (R78). -/
  | stop
  deriving DecidableEq, Repr

/-- R27: which transport primitive of the current step is next. The code 3 never occurs (U14). -/
inductive Phase where
  /-- A write is next. -/
  | w
  /-- A read is next. -/
  | r
  /-- The echo write of a CAPTURE is next. -/
  | e
  deriving DecidableEq, Repr

/-- R29: the outcome of the last command. The reserved code 7 has no constructor (U11). -/
inductive Status where
  /-- Code 0: the last command completed. -/
  | ok
  /-- Codes 1, 2, 3: the CAPTURE with index `i` timed out (`QUERY_FAIL_(i+1)`). -/
  | queryFail (i : Fin 3)
  /-- Code 4: ENCODE or SET_CURRENT with `counts > 0xFFFF`. -/
  | encodeRange
  /-- Code 5: a reserved command opcode was presented. -/
  | illegalCmd
  /-- Code 6: reserved for DecodeFailure; no rule produces it (R205). -/
  | decodeFail
  deriving DecidableEq, Repr

/-- R12: a transport event. -/
inductive Event where
  /-- `W(b)`: the block wrote `b`. -/
  | wrote (b : Byte)
  /-- `R(b)`: a read returned `b`. -/
  | read (b : Byte)
  /-- `T`: a read timed out. -/
  | timeout
  deriving DecidableEq, Repr

/-- R34 (a), R76: the script ROM, two scripts of ten step words. -/
structure Rom where
  start : Vector StepWord 10
  stop : Vector StepWord 10
  deriving DecidableEq, Repr

/-- R77, R78: the contents of the script ROM. -/
def Rom.contents : Rom where
  start := #v[0x006400, 0x006400, 0x401E12, 0x006400, 0x002C00,
    0x200000, 0x210000, 0x220000, 0x230000, 0x400012]
  stop := #v[0x006400, 0x402B12, 0x600A00, 0x800000, 0x810000,
    0x820000, 0x004E00, 0x600000, 0x006400, 0x408212]

/-- The block (R20 to R30, R34, R37, R38), its one parameter, and the inputs the outside world holds for it. -/
structure State where
  /-- R26: the running script. -/
  script : Script
  /-- R25: the step counter, 1 to 10 while a script runs and 0 when none runs; 11 to 15 are no values (U14). -/
  step : Fin 11
  /-- R27: the transport primitive that is next. -/
  phase : Phase
  /-- R28: the non-matching bytes the POLL step has discarded since its write. Where `pollMaxReads` is `none` the
  register does not exist: writes to it are discarded and it stays 0. -/
  pollCnt : Nat
  /-- R29: the status register. -/
  status : Status
  /-- R21: the payload registers. -/
  pay : Payload
  /-- R22: the capture registers. -/
  cap : Response
  /-- R23: the capture valid flags. -/
  capValid : Vector Bool 3
  /-- R24: the magnitude of the decoded Reading, in tenths of a millitesla. -/
  resMag : BitVec 16
  /-- R24: the sign of the decoded Reading, true for negative. -/
  resNeg : Bool
  /-- R34 (a), R38: the script ROM. No rule writes it. -/
  rom : Rom
  /-- R37: the trace of the current command, oldest event first (ghost state). -/
  trace : List Event
  /-- R144, D14: the parameter `POLL_MAX_READS` of this block; no rule changes it. -/
  pollMaxReads : Option PollBound
  /-- The model's own input: the command words the host has for the command port (R31), in the order it presents
  them (R64). The head is presented whenever `script = IDLE` (R246). -/
  port : List CmdWord
  /-- The model's own input: the reset is asserted; the next step takes it (R230). -/
  resetReq : Bool
  /-- The model's own input: the answers the environment gives to the next reads, in order (R12, R66). After the
  last of them every answer is a free value. -/
  answers : List Answer
  /-- The model's own field: how many free values have been drawn. -/
  draws : Nat
  deriving DecidableEq, Repr

/-- Why the machine stops with a fault. All are safe: the spec gives the state no transition, and no state that a
run reaches has one of them. -/
inductive Fault where
  /-- Raised by the five step kinds. A handshake step was asked for in a state with `script = IDLE`, where the
  block has no micro-step (R136, R165). Safe: `step` never asks for one there. -/
  | sequencerIdle
  /-- Raised by the five step kinds. The step kind has no micro-step in this `phase` (R136: no other combination
  is reachable). Safe. -/
  | noMicroStep
  /-- Raised by the fetch. A script runs and `step` is 0, so the ROM has no such entry (R25, R135, U14). Safe. -/
  | noSuchStep
  deriving DecidableEq, Repr

/-- Why the machine refuses to go on. -/
inductive Refusal where
  /-- Raised by an arm of `exec` that gives its instruction no meaning yet. Safe. No arm does. -/
  | notModelled (mnemonic : String)
  /-- Raised by the fetch: the ROM entry is a reserved step word, which has no meaning (R83, D20: a model that
  decodes words refuses them). Safe: no word of R77 and R78 is one and no rule writes the ROM. -/
  | reservedStepWord (w : StepWord)
  deriving DecidableEq, Repr

/-- R38, R230: the machine right after reset. `pay`, `cap`, `resMag` and `resNeg` are unspecified there and never
zero by default (U10): they hold the first free value (DESIGN CHOICE, log entry 3), which counts as drawn. The
parameter has whatever value the implementation gives it. -/
def State.reset : State where
  script := .idle
  step := 0
  phase := .w
  pollCnt := 0
  status := .ok
  pay := (Config.unspecifiedData 0).pay
  cap := (Config.unspecifiedData 0).cap
  capValid := #v[false, false, false]
  resMag := (Config.unspecifiedData 0).resMag
  resNeg := (Config.unspecifiedData 0).resNeg
  rom := Rom.contents
  trace := []
  pollMaxReads := Config.pollMaxReads
  port := []
  resetReq := false
  answers := []
  draws := 1

end Sys2Proof.Machine
end

