-- ==== Sys2Proof/Machine/Flags.lean ====
section
/-! DEFINITION. Machine/Flags.lean: the block's flags (R30): the derived `busy`, the capture valid flags and the
status code. There are no arithmetic condition codes. -/

namespace Sys2Proof.Machine

/-- R26: `busy`, which is `script != IDLE`. -/
def State.busy (s : State) : Bool := s.script != .idle

/-- R29: the code of a status. -/
def Status.code : Status → BitVec 3
  | .ok => 0
  | .queryFail i => BitVec.ofNat 3 (i.val + 1)
  | .encodeRange => 4
  | .illegalCmd => 5
  | .decodeFail => 6

/-- R10, R29: `status <- ` the code of an outcome. Raising a failure is this and the control action its rule
names. -/
def State.setStatus (s : State) (st : Status) : State := { s with status := st }

/-- R23: the CAPTURE read with index `i` sets `cap_valid[i]`. -/
def State.setValid (s : State) (i : Fin 3) : State := { s with capValid := s.capValid.set i true }

/-- R23: an accepted STOP_QUERY clears all three flags. -/
def State.clearValid (s : State) : State := { s with capValid := #v[false, false, false] }

end Sys2Proof.Machine
end

