-- ==== Sys2Proof/Machine/Encoder.lean ====
section
/-! DEFINITION. Machine/Encoder.lean: the CurrentEncoder, a pure function from milliamps to the four payload bytes
(R100 to R111). -/

namespace Sys2Proof.Machine

/-- R109: what `Encode` returns. -/
inductive EncodeResult where
  | ok (p : Payload)
  | range
  deriving DecidableEq, Repr

/-- R80 (a), R101: the magnitude in milliamps, a mathematical integer that does not wrap at the most negative
operand. -/
def milliampMagnitude (ma : BitVec 32) : Nat := ma.toInt.natAbs

/-- R104: `floor((632*m + 975) / 1950)` in unbounded integers; 632/1950 is `SCALE_MA`, 316/975 counts per
milliamp (R5). -/
def counts (m : Nat) : Nat := (632 * m + 975) / 1950

/-- R102: 0x01 for a non-negative operand, 0x00 for a negative one. -/
def signByte (ma : BitVec 32) : Byte := if 0 ≤ ma.toInt then 0x01 else 0x00

/-- R106: the byte above the low byte, for counts of at most 16 bits. -/
def highByte (c : Nat) : Byte := BitVec.ofNat 8 (c >>> 8)

/-- R106: the low byte. -/
def lowByte (c : Nat) : Byte := BitVec.ofNat 8 (c &&& 0xFF)

/-- R108: the counts are at most `COUNTS_MAX`, 0xFFFF, so two payload bytes hold them. -/
def countsFit (c : Nat) : Bool := decide (c ≤ 0xFFFF)

/-- R106, R107: the payload of counts that fit, with a sign byte. -/
def payloadOf (c : Nat) (sign : Byte) : Payload := #v[highByte c, lowByte c, 0x00, sign]

/-- R109: `Encode`. R108: counts that do not fit are refused, not clamped. -/
def encodeCurrent (ma : BitVec 32) : EncodeResult :=
  if countsFit (counts (milliampMagnitude ma)) then
    .ok (payloadOf (counts (milliampMagnitude ma)) (signByte ma))
  else .range

/-- R87 (e), R111: `decode_sign(payload)` of the source. -/
def decodeSign (p : Payload) : Bool := p[3] == 0x01

end Sys2Proof.Machine
end

