-- ==== Sys2Proof/Machine/FieldDecoder.lean ====
section
/-! DEFINITION. Machine/FieldDecoder.lean: the FieldDecoder, a pure total function from the three response bytes to
a signed field in tenths of a millitesla (R120 to R128). -/

namespace Sys2Proof.Machine

/-- R120: the decoded pair: a magnitude in tenths of a millitesla and a sign. -/
structure Reading where
  mag : BitVec 16
  neg : Bool
  deriving DecidableEq, Repr

/-- R121: `(byte1 << 8) | byte2`, unsigned. -/
def fieldMagnitude (b1 b2 : Byte) : BitVec 16 := b1 ++ b2

/-- R122: equality of the whole third byte with 0x01. -/
def fieldNegative (b3 : Byte) : Bool := b3 == 0x01

/-- R125: `Decode`. -/
def fieldDecode (b1 b2 b3 : Byte) : Reading := ⟨fieldMagnitude b1 b2, fieldNegative b3⟩

/-- R123: `FieldDmt`, the signed field in tenths of a millitesla. -/
def fieldDmt (r : Reading) : Int := if r.neg then -(r.mag.toNat : Int) else r.mag.toNat

/-- R123: `field_dmt[16:0]`, the 17-bit two's-complement view. -/
def fieldDmtBits (r : Reading) : BitVec 17 := BitVec.ofInt 17 (fieldDmt r)

/-- R124: the Reading in millitesla, an exact rational; a change of unit, which the hardware does not compute. -/
def fieldMilliTesla (r : Reading) : Rat := (fieldDmt r : Rat) / 10

end Sys2Proof.Machine
end

