-- ==== Sys2Proof/Machine/Operands.lean ====
section
/-! DEFINITION. Machine/Operands.lean: the operands of steps and commands in the state: the payload and capture
register files (R20 to R22), the result registers (R24), and the script ROM (R34, R135). -/

namespace Sys2Proof.Machine

/-- R21, R138: `pay[i]`. -/
def State.payload (s : State) (i : Fin 4) : Byte := s.pay[i]

/-- R21: the four payload registers are written all together. -/
def State.setPayload (s : State) (p : Payload) : State := { s with pay := p }

/-- R22, R143: `cap[i]`. -/
def State.captured (s : State) (i : Fin 3) : Byte := s.cap[i]

/-- R22: `cap[i] <- v`. -/
def State.setCaptured (s : State) (i : Fin 3) (v : Byte) : State := { s with cap := s.cap.set i v }

/-- R24: the Reading the result registers hold. -/
def State.reading (s : State) : Reading := ⟨s.resMag, s.resNeg⟩

/-- R24: the two result registers are written together. -/
def State.setReading (s : State) (r : Reading) : State := { s with resMag := r.mag, resNeg := r.neg }

/-- R135: `ROM[script][step]`; none where no script runs and at step 0. -/
def Rom.word (rom : Rom) (sc : Script) (k : Nat) : Option StepWord :=
  match sc, k with
  | .idle, _ => none
  | _, 0 => none
  | .start, k + 1 => rom.start[k]?
  | .stop, k + 1 => rom.stop[k]?

/-- R34 (a): the ROM with the word of one step replaced. No rule of the block uses it; a program is placed with it
(`State.withFetchWord`). -/
def Rom.place (rom : Rom) (sc : Script) (k : Nat) (w : StepWord) : Rom :=
  match sc, k with
  | .start, k + 1 => { rom with start := rom.start.setIfInBounds k w }
  | .stop, k + 1 => { rom with stop := rom.stop.setIfInBounds k w }
  | _, _ => rom

end Sys2Proof.Machine
end

