-- ==== Sys2Proof/Machine/Ops.lean ====
section
/-! DEFINITION. Machine/Ops.lean: the named operations the meanings share: the Transport primitives (R51, R52), the
POLL counter (R28, R144), the control procedures (R146 to R148), the failures (R203 to R207) and the reset input
(R230). -/

namespace Sys2Proof.Machine

/-! ### The Transport port -/

/-- R65: the event is appended to the trace of the current command. -/
def State.emit (s : State) (ev : Event) : State := { s with trace := s.trace ++ [ev] }

/-- R51: `TxWrite(b)`. It always succeeds (D24). -/
def State.txWrite (s : State) (b : Byte) : State := s.emit (.wrote b)

/-- R12, R52: the event of an answer. -/
def answerEvent : Answer → Event
  | .byte v => .read v
  | .timeout => .timeout

/-- R66: the environment's answer to the next read, and the inputs left after it. -/
def State.nextAnswer (s : State) : Answer × State :=
  match s.answers with
  | a :: rest => (a, { s with answers := rest })
  | [] => (Config.freeAnswer s.draws, { s with draws := s.draws + 1 })

/-- R52: `TxRead()`: the answer, and the state with the answer consumed and its event in the trace. -/
def State.txRead (s : State) : Answer × State :=
  (s.nextAnswer.1, s.nextAnswer.2.emit (answerEvent s.nextAnswer.1))

/-! ### The POLL counter -/

/-- R28: the value `poll_cnt` holds after a write of `n`: the register does not exist where there is no bound. -/
def pollCntAfter (bound : Option PollBound) (old n : Nat) : Nat :=
  match bound with
  | none => old
  | some _ => n

/-- R28: `poll_cnt <- n`. -/
def State.setPollCnt (s : State) (n : Nat) : State :=
  { s with pollCnt := pollCntAfter s.pollMaxReads s.pollCnt n }

/-- R140, R144: the read that would discard one more byte is the last the bound allows. -/
def pollBoundReached (bound : Option PollBound) (cnt : Nat) : Bool :=
  match bound with
  | none => false
  | some b => decide (b.n ≤ cnt + 1)

/-! ### Control procedures -/

/-- R146: the phase a step is entered with: `R` for a CAPTURE, `W` for every other kind. -/
def entryPhase (w : Option StepWord) : Phase :=
  match w.map decodeStepWord with
  | some (.instr (.capture _)) => .r
  | _ => .w

/-- R147, R148: the sequencer registers of an idle block. -/
def State.toIdle (s : State) : State := { s with script := .idle, step := 0, phase := .w }

/-- R147: the stop script decodes the three captured bytes into the result registers; the start script returns
nothing. -/
def State.deliver (s : State) : State :=
  match s.script with
  | .stop => s.setReading (fieldDecode (s.captured 0) (s.captured 1) (s.captured 2))
  | _ => s

/-- R147: `Finish()`. -/
def State.finish (s : State) : State := (s.deliver.setStatus .ok).toIdle

/-- R146: `Advance()`. The entry phase is that of the step being entered (C12). -/
def State.advance (s : State) : State :=
  if s.step = 10 then s.finish
  else { s with phase := entryPhase (s.rom.word s.script (s.step.val + 1)), step := s.step + 1 }

/-- R162, R163: a script is entered at its step 1 with `phase = W` (both scripts begin with an ACK). -/
def State.enter (s : State) (sc : Script) : State := { s with script := sc, step := 1, phase := .w }

/-! ### Failures: the block's exceptions -/

/-- R148, R204, R211: `Abort(i + 1)`, the entry of the failure `QUERY_FAIL_(i+1)`. Nothing is saved and nothing is
vectored to; the block is idle afterwards. -/
def State.abort (s : State) (i : Fin 3) : State := (s.setStatus (.queryFail i)).toIdle

/-- R206: the failure `ENCODE_RANGE`, raised at acceptance. -/
def State.raiseRange (s : State) : State := s.setStatus .encodeRange

/-- R166, R207: the failure `ILLEGAL_CMD`, raised when a reserved opcode is presented. -/
def State.raiseIllegal (s : State) : State := s.setStatus .illegalCmd

/-! ### Acceptance and reset -/

/-- R37: an accepted command's trace begins empty (DEDUCED, log entry 6). -/
def State.beginTrace (s : State) : State := { s with trace := [] }

/-- R31: the head of the host's words leaves the port when it is presented. -/
def State.takePort (s : State) : State := { s with port := s.port.tail }

/-- R230, R232, R233: the one reset, taken at any time. The registers of the table of R38 take its values, the data
registers it leaves unspecified take free values, the ROM and the parameter stay, and no transport primitive is
performed. -/
def State.softReset (s : State) : State :=
  { s with
    script := .idle
    step := 0
    phase := .w
    pollCnt := 0
    status := .ok
    capValid := #v[false, false, false]
    trace := []
    pay := (Config.unspecifiedData s.draws).pay
    cap := (Config.unspecifiedData s.draws).cap
    resMag := (Config.unspecifiedData s.draws).resMag
    resNeg := (Config.unspecifiedData s.draws).resNeg
    draws := s.draws + 1
    resetReq := false }

end Sys2Proof.Machine
end

