-- ==== Sys2Proof/Machine/Commands.lean ====
section
/-! DEFINITION. Machine/Commands.lean: the meanings of the four commands (R160 to R163). A command presented while a
script runs is not accepted and has no effect on any state (R164); acceptance is one atomic event with no transport
primitive. -/

namespace Sys2Proof.Machine

/-- R160: what ENCODE does with the encoder's result. -/
def State.storeEncoded (s : State) (r : EncodeResult) : State :=
  match r with
  | .ok p => (s.setPayload p).setStatus .ok
  | .range => s.raiseRange

/-- R162: what SET_CURRENT does with the encoder's result. -/
def State.startEncoded (s : State) (r : EncodeResult) : State :=
  match r with
  | .ok p => (s.setPayload p).enter .start
  | .range => s.raiseRange

/-- R164: the command `accept` is taken only when no script runs. -/
def State.acceptWhenIdle (s : State) (accept : State → State) : State :=
  if s.busy then s else accept s.beginTrace

/-- R160: `ENCODE ma`. -/
def execEncode (arg : BitVec 32) (s : State) : Host.Outcome State Fault Refusal :=
  .next (s.acceptWhenIdle fun t => t.storeEncoded (encodeCurrent arg))

/-- R161: `DECODE b1 b2 b3`; `arg[31:24]` is ignored (R84). -/
def execDecode (_ign b1 b2 b3 : Byte) (s : State) : Host.Outcome State Fault Refusal :=
  .next (s.acceptWhenIdle fun t => (t.setReading (fieldDecode b1 b2 b3)).setStatus .ok)

/-- R162: `SET_CURRENT ma`. -/
def execSetCurrent (arg : BitVec 32) (s : State) : Host.Outcome State Fault Refusal :=
  .next (s.acceptWhenIdle fun t => t.startEncoded (encodeCurrent arg))

/-- R163: `STOP_QUERY`; `arg` is ignored (R84). -/
def execStopQuery (_ign : BitVec 32) (s : State) : Host.Outcome State Fault Refusal :=
  .next (s.acceptWhenIdle fun t => t.clearValid.enter .stop)

end Sys2Proof.Machine
end

