-- ==== Sys2Proof/Machine/Steps.lean ====
section
/-! DEFINITION. Machine/Steps.lean: the meanings of the five handshake steps (R136 to R143). One call is ONE
micro-step: exactly one transport primitive, chosen by the kind and by `phase`. -/

namespace Sys2Proof.Machine

/-- R137 to R139: the write micro-step of a step that reads afterwards. -/
def State.writeThenRead (s : State) (b : Byte) : State := { s.txWrite b with phase := .r }

/-- R137, R138, R201: the read micro-step of ACK and ACKP: the answer is discarded whatever it is. -/
def State.readAndDiscard (s : State) : State := s.txRead.2.advance

/-- R139: the write micro-step of a POLL. -/
def State.pollWrite (s : State) (b : Byte) : State := (s.writeThenRead b).setPollCnt 0

/-- R140, R144, R202: what a POLL does with the answer `a`. -/
def State.pollAnswer (s : State) (e : Byte) (a : Answer) : State :=
  match a with
  | .timeout => s.advance
  | .byte v =>
    if v = e then s.advance
    else if pollBoundReached s.pollMaxReads s.pollCnt then s.advance
    else s.setPollCnt (s.pollCnt + 1)

/-- R140: the read micro-step of a POLL. -/
def State.pollRead (s : State) (e : Byte) : State := s.txRead.2.pollAnswer e s.txRead.1

/-- R141: the one micro-step of a WRITE. -/
def State.writeOnly (s : State) (b : Byte) : State := (s.txWrite b).advance

/-- R142, R203: what a CAPTURE does with the answer `a`. -/
def State.captureAnswer (s : State) (i : Fin 3) (a : Answer) : State :=
  match a with
  | .timeout => s.abort i
  | .byte v => { (s.setCaptured i v).setValid i with phase := .e }

/-- R142: the read micro-step of a CAPTURE. -/
def State.captureRead (s : State) (i : Fin 3) : State := s.txRead.2.captureAnswer i s.txRead.1

/-- R143: the echo micro-step of a CAPTURE. -/
def State.captureEcho (s : State) (i : Fin 3) : State := (s.txWrite (s.captured i)).advance

/-- R137: `ACK b`. -/
def execAck (b : Byte) (s : State) : Host.Outcome State Fault Refusal :=
  match s.busy, s.phase with
  | false, _ => .fault .sequencerIdle
  | true, .w => .next (s.writeThenRead b)
  | true, .r => .next s.readAndDiscard
  | true, .e => .fault .noMicroStep

/-- R138: `ACKP i`, an ACK of the byte `pay[i]` holds at the write. -/
def execAckp (i : Fin 4) (s : State) : Host.Outcome State Fault Refusal :=
  match s.busy, s.phase with
  | false, _ => .fault .sequencerIdle
  | true, .w => .next (s.writeThenRead (s.payload i))
  | true, .r => .next s.readAndDiscard
  | true, .e => .fault .noMicroStep

/-- R139, R140: `POLL b e`. -/
def execPoll (b e : Byte) (s : State) : Host.Outcome State Fault Refusal :=
  match s.busy, s.phase with
  | false, _ => .fault .sequencerIdle
  | true, .w => .next (s.pollWrite b)
  | true, .r => .next (s.pollRead e)
  | true, .e => .fault .noMicroStep

/-- R141: `WRITE b`. -/
def execWrite (b : Byte) (s : State) : Host.Outcome State Fault Refusal :=
  match s.busy, s.phase with
  | false, _ => .fault .sequencerIdle
  | true, .w => .next (s.writeOnly b)
  | true, .r => .fault .noMicroStep
  | true, .e => .fault .noMicroStep

/-- R142, R143: `CAPTURE i`. -/
def execCapture (i : Fin 3) (s : State) : Host.Outcome State Fault Refusal :=
  match s.busy, s.phase with
  | false, _ => .fault .sequencerIdle
  | true, .w => .fault .noMicroStep
  | true, .r => .next (s.captureRead i)
  | true, .e => .next (s.captureEcho i)

end Sys2Proof.Machine
end

