-- ==== Sys2Proof/Machine/Dispatch.lean ====
section
/-! DEFINITION. Machine/Dispatch.lean: one arm per instruction, each one call of its meaning. -/

namespace Sys2Proof.Machine

def exec (i : Instr) (s : State) : Host.Outcome State Fault Refusal :=
  match i with
  | .ack b => Sys2Proof.Machine.execAck b s
  | .ackp k => Sys2Proof.Machine.execAckp k s
  | .poll b e => Sys2Proof.Machine.execPoll b e s
  | .write b => Sys2Proof.Machine.execWrite b s
  | .capture k => Sys2Proof.Machine.execCapture k s
  | .encode arg => Sys2Proof.Machine.execEncode arg s
  | .decode ign b1 b2 b3 => Sys2Proof.Machine.execDecode ign b1 b2 b3 s
  | .setCurrent arg => Sys2Proof.Machine.execSetCurrent arg s
  | .stopQuery ign => Sys2Proof.Machine.execStopQuery ign s

end Sys2Proof.Machine
end

