-- ==== Sys2Proof/Machine/Fetch.lean ====
section
/-! DEFINITION. Machine/Fetch.lean: what a step of the machine does around an instruction: the reset input, the
command port while the block is idle (R31, R164 to R166) and the script ROM while a script runs (R135, R136). -/

namespace Sys2Proof.Machine

/-- What the fetch finds. -/
inductive Fetched where
  /-- An instruction to run, and the state it runs in. -/
  | run (i : Instr) (s : State)
  /-- The step is over without an instruction. -/
  | settle (s : State)
  /-- The step stops with a fault. -/
  | fault (f : Fault)
  /-- The step is refused. -/
  | refuse (r : Refusal)
  deriving DecidableEq, Repr

/-- R135, R83: the handshake step of a ROM entry. -/
def fetchStep (s : State) : Fetched :=
  match s.rom.word s.script s.step.val with
  | none => .fault .noSuchStep
  | some w =>
    match decodeStepWord w with
    | .instr i => .run i s
    | .reject _ => .refuse (.reservedStepWord w)

/-- R164 to R166: an idle block takes the command word presented at the port, answers a reserved opcode with
`ILLEGAL_CMD`, and keeps every register while no word is presented. -/
def fetchCommand (s : State) : Fetched :=
  match s.port with
  | [] => .settle s
  | w :: _ =>
    match decodeCmdWord w with
    | .instr i => .run i s.takePort
    | .reject _ => .settle s.takePort.raiseIllegal

/-- The reset input is taken first (R230, R233); then a running script has exactly one micro-step and the port is
not looked at (R136, R164); an idle block looks at the port. -/
def fetch (s : State) : Fetched :=
  if s.resetReq then .settle s.softReset
  else if s.busy then fetchStep s
  else fetchCommand s

/-- The script the model places a step word in: the running one, else the start script. -/
def hostScript (s : State) : Script :=
  match s.script with
  | .idle => .start
  | sc => sc

/-- The step the model places a step word at: the current one, else step 1. -/
def hostStep (s : State) : Fin 11 := if s.step = 0 then 1 else s.step

/-- The state whose next step fetches the ROM entry `w`: a script runs, its current step holds `w`, and the phase
is the entry phase of `w`. -/
def State.placeStep (s : State) (w : StepWord) : State :=
  { s with
    script := hostScript s
    step := hostStep s
    phase := entryPhase (some w)
    rom := s.rom.place (hostScript s) (hostStep s).val w
    resetReq := false }

/-- The state whose next step takes the command word `w`: the block is idle and `w` is presented. -/
def State.placeCommand (s : State) (w : CmdWord) : State :=
  { s.toIdle with port := w :: s.port, resetReq := false }

/-- The state whose next step fetches the word `e`. -/
def State.placeWord (s : State) (e : Encoded) : State :=
  match e with
  | .step w => s.placeStep w
  | .command w => s.placeCommand w

end Sys2Proof.Machine
end

