-- ==== Sys2Proof/Machine/Step.lean ====
section
/-! DEFINITION. Machine/Step.lean: one step of the machine, and the placing of an instruction where it fetches. -/

namespace Sys2Proof.Machine

/-- One step: a micro-step of the running script (R136), the acceptance of a command (R164), the answer to a
reserved opcode (R166), waiting (R165), or the reset (R230). -/
def step (s : State) : Host.Outcome State Fault Refusal :=
  match fetch s with
  | .run i t => exec i t
  | .settle t => .next t
  | .fault f => .fault f
  | .refuse r => .refused r

/-- `s` with the instruction whose bits are `w` where `step` fetches its next instruction (log entry 7). -/
def State.withFetchWord (s : State) (nbits w : Nat) : State :=
  match tableWord nbits w with
  | some e => s.placeWord e
  | none => s

end Sys2Proof.Machine
end

