-- ==== Sys2Proof/Machine/Facade.lean ====
section
/-! DEFINITION. Machine/Facade.lean: the source's caller-facing operations as the command words the host presents
(R87, R167, R168). -/

namespace Sys2Proof.Machine

/-- R87 (a), D1: the operand of a current in amps, where the current is a whole number of milliamps that 32 bits
hold; other currents cannot be presented. -/
def milliampsOf (amps : Rat) : Option (BitVec 32) :=
  let ma := 1000 * amps
  if ma.den = 1 ∧ -2147483648 ≤ ma.num ∧ ma.num ≤ 2147483647 then some (BitVec.ofInt 32 ma.num) else none

/-- The command word of an instruction that is a command; a handshake step has none. -/
def commandWords (i : Instr) : List CmdWord :=
  match encodeInstr i with
  | .command w => [w]
  | .step _ => []

/-- R87 (a): `set_current`. -/
def facadeSetCurrent (ma : BitVec 32) : List CmdWord := commandWords (.setCurrent ma)

/-- R87 (b): `stop_and_query_field`. -/
def facadeStopAndQuery : List CmdWord := commandWords (.stopQuery 0)

/-- R87 (c), R168: `pulse`, the two commands back to back; the hold is time and changes no state, and the second
command is presented whatever the first one's status is (D21). -/
def facadePulse (ma : BitVec 32) : List CmdWord := facadeSetCurrent ma ++ facadeStopAndQuery

/-- R87 (d): `encode`. -/
def facadeEncode (ma : BitVec 32) : List CmdWord := commandWords (.encode ma)

/-- R87 (d): `decode`. -/
def facadeDecode (b1 b2 b3 : Byte) : List CmdWord := commandWords (.decode 0 b1 b2 b3)

/-- R31, R64: the host queues words behind the ones it already has; each is presented when `busy = 0`. -/
def State.queue (s : State) (ws : List CmdWord) : State := { s with port := s.port ++ ws }

/-- R233: the host asserts the reset. -/
def State.assertReset (s : State) : State := { s with resetReq := true }

/-- R66: the environment's next answers are `as`. -/
def State.withAnswers (s : State) (as : List Answer) : State := { s with answers := as }

end Sys2Proof.Machine
end

