-- ==== Sys2Proof/Machine/ResultPort.lean ====
section
/-! DEFINITION. Machine/ResultPort.lean: what the host reads back (R32, R167, R249). Reading has no side effect:
the port is a function of the state. -/

namespace Sys2Proof.Machine

/-- R32: the values of the result port. -/
structure ResultPort where
  busy : Bool
  status : BitVec 3
  pay : Payload
  cap : Response
  capValid : Vector Bool 3
  resMag : BitVec 16
  resNeg : Bool
  fieldDmt : BitVec 17
  deriving DecidableEq, Repr

/-- R32: the result port at a state. -/
def State.resultPort (s : State) : ResultPort where
  busy := s.busy
  status := s.status.code
  pay := s.pay
  cap := s.cap
  capValid := s.capValid
  resMag := s.resMag
  resNeg := s.resNeg
  fieldDmt := fieldDmtBits s.reading

/-- R167: what the host takes as the result of a STOP_QUERY that has ended: the Reading in tenths of a millitesla,
or the failure marker, which names the capture that failed. -/
inductive QueryResult where
  | reading (dmt : Int)
  | failure (code : BitVec 3)
  deriving DecidableEq, Repr

/-- R167, R249: the result of a STOP_QUERY, read from the port; none while `busy = 1`, when the port's values are
no result. -/
def ResultPort.queryResult (p : ResultPort) : Option QueryResult :=
  if p.busy then none
  else if p.status = 0 then some (.reading p.fieldDmt.toInt)
  else some (.failure p.status)

end Sys2Proof.Machine
end

