-- ==== Sys2Proof/Machine/Validator.lean ====
section
/-! DEFINITION. Machine/Validator.lean: the byte-sequence validator (R180 to R188): the step rules read as a
recogniser of the trace of one command. -/

namespace Sys2Proof.Machine

/-- R180: the validator's inputs but for the trace. -/
structure ValidatorInput where
  /-- The script selector, `start` or `stop`. -/
  script : Script
  /-- The expected payload, used for `start`. -/
  payload : Payload
  /-- `POLL_MAX_READS`. -/
  bound : Option PollBound
  deriving DecidableEq, Repr

/-- R181: the validator's state. -/
structure ValidatorState where
  step : Fin 11
  phase : Phase
  pollCnt : Nat
  c : Response
  nc : Nat
  deriving DecidableEq, Repr

/-- R185: what was acceptable where a violation was found. -/
inductive Expected where
  | write (b : Byte)
  | read
  | nothing
  deriving DecidableEq, Repr

/-- R185: the verdicts. -/
inductive Verdict where
  /-- The trace is a whole successful command; a stop-and-query carries the three captured bytes. -/
  | completeOk (bytes : Option Response)
  /-- The trace is a whole stop-and-query that ended at the timeout of the CAPTURE with index `i`. -/
  | completeFail (i : Fin 3)
  /-- Every event was accepted and the script has not ended. -/
  | incomplete (step : Fin 11) (phase : Phase)
  /-- Event number `n`, counted from 1, is not one the sequencer could have produced. -/
  | violation (n : Nat) (expected : Expected)
  deriving DecidableEq, Repr

/-- What the validator does with one event (R182). -/
inductive ValidatorMove where
  | go (v : ValidatorState)
  | stop (verdict : Verdict)
  | bad (expected : Expected)
  deriving DecidableEq, Repr

/-- R181: the initial state. No byte is captured yet; `c` counts only below `nc`. -/
def validatorInit : ValidatorState := ⟨1, .w, 0, #v[0, 0, 0], 0⟩

/-- R182: `Advance` with `Finish()` replaced by `Complete(OK)`. -/
def validatorAdvance (inp : ValidatorInput) (v : ValidatorState) : ValidatorMove :=
  if v.step = 10 then .stop (.completeOk (if inp.script = .stop then some v.c else none))
  else .go { v with
    phase := entryPhase (Rom.contents.word inp.script (v.step.val + 1))
    step := v.step + 1 }

/-- R182: the rows of ACK (and of ACKP, read as an ACK of the payload byte). -/
def validatorAck (inp : ValidatorInput) (b : Byte) (v : ValidatorState) (ev : Event) : ValidatorMove :=
  match v.phase, ev with
  | .w, .wrote x => if x = b then .go { v with phase := .r } else .bad (.write b)
  | .w, _ => .bad (.write b)
  | .r, .wrote _ => .bad .read
  | .r, _ => validatorAdvance inp v
  | .e, _ => .bad .nothing

/-- R182: the rows of POLL. -/
def validatorPoll (inp : ValidatorInput) (b e : Byte) (v : ValidatorState) (ev : Event) : ValidatorMove :=
  match v.phase, ev with
  | .w, .wrote x =>
    if x = b then .go { v with phase := .r, pollCnt := pollCntAfter inp.bound v.pollCnt 0 } else .bad (.write b)
  | .w, _ => .bad (.write b)
  | .r, .wrote _ => .bad .read
  | .r, .timeout => validatorAdvance inp v
  | .r, .read x =>
    if x = e then validatorAdvance inp v
    else if pollBoundReached inp.bound v.pollCnt then validatorAdvance inp v
    else .go { v with pollCnt := pollCntAfter inp.bound v.pollCnt (v.pollCnt + 1) }
  | .e, _ => .bad .nothing

/-- R182: the row of WRITE. -/
def validatorWrite (inp : ValidatorInput) (b : Byte) (v : ValidatorState) (ev : Event) : ValidatorMove :=
  match v.phase, ev with
  | .w, .wrote x => if x = b then validatorAdvance inp v else .bad (.write b)
  | .w, _ => .bad (.write b)
  | .r, _ => .bad .nothing
  | .e, _ => .bad .nothing

/-- R182: the rows of CAPTURE. -/
def validatorCapture (inp : ValidatorInput) (i : Fin 3) (v : ValidatorState) (ev : Event) : ValidatorMove :=
  match v.phase, ev with
  | .r, .read x => .go { v with c := v.c.set i x, nc := v.nc + 1, phase := .e }
  | .r, .timeout => .stop (.completeFail i)
  | .r, .wrote _ => .bad .read
  | .e, .wrote x => if x = v.c[i] then validatorAdvance inp v else .bad (.write v.c[i])
  | .e, _ => .bad (.write v.c[i])
  | .w, _ => .bad .nothing

/-- R182: the validator's transition on one event. -/
def validatorMove (inp : ValidatorInput) (v : ValidatorState) (ev : Event) : ValidatorMove :=
  match (Rom.contents.word inp.script v.step.val).map decodeStepWord with
  | some (.instr (.ack b)) => validatorAck inp b v ev
  | some (.instr (.ackp i)) => validatorAck inp inp.payload[i] v ev
  | some (.instr (.poll b e)) => validatorPoll inp b e v ev
  | some (.instr (.write b)) => validatorWrite inp b v ev
  | some (.instr (.capture i)) => validatorCapture inp i v ev
  | _ => .bad .nothing

/-- Where the validator stands after some events. -/
inductive ValidatorRun where
  /-- `n` events were accepted and the script has not ended. -/
  | live (v : ValidatorState) (n : Nat)
  /-- The script ended at event `n`. -/
  | stopped (verdict : Verdict) (n : Nat)
  /-- Event `n` was a violation. -/
  | violated (n : Nat) (expected : Expected)
  deriving DecidableEq, Repr

/-- R182: one more event; after a stop no further event is allowed. -/
def validatorFeed (inp : ValidatorInput) (r : ValidatorRun) (ev : Event) : ValidatorRun :=
  match r with
  | .live v n =>
    match validatorMove inp v ev with
    | .go v' => .live v' (n + 1)
    | .stop verdict => .stopped verdict (n + 1)
    | .bad expected => .violated (n + 1) expected
  | .stopped _ n => .violated (n + 1) .nothing
  | .violated n expected => .violated n expected

/-- R182: the validator over a trace. -/
def validatorRun (inp : ValidatorInput) (trace : List Event) : ValidatorRun :=
  trace.foldl (validatorFeed inp) (.live validatorInit 0)

/-- R185: the verdict of where the validator stands. -/
def ValidatorRun.verdict : ValidatorRun → Verdict
  | .live v _ => .incomplete v.step v.phase
  | .stopped verdict _ => verdict
  | .violated n expected => .violation n expected

/-- R180, R185: the validator. -/
def validate (inp : ValidatorInput) (trace : List Event) : Verdict := (validatorRun inp trace).verdict

/-- R183: the verdict is a `Complete`. -/
def Verdict.isComplete : Verdict → Bool
  | .completeOk _ => true
  | .completeFail _ => true
  | .incomplete _ _ => false
  | .violation _ _ => false

/-- R183: the trace conforms to the script. -/
def conforms (inp : ValidatorInput) (trace : List Event) : Bool := (validate inp trace).isComplete

/-- R185: the Reading a `Complete(OK)` of the stop script carries. -/
def Verdict.reading : Verdict → Option Reading
  | .completeOk (some bs) => some (fieldDecode bs[0] bs[1] bs[2])
  | _ => none

/-- R185, R186 (a): the status a `Complete` verdict names. -/
def Verdict.status : Verdict → Option Status
  | .completeOk _ => some .ok
  | .completeFail i => some (.queryFail i)
  | .incomplete _ _ => none
  | .violation _ _ => none

/-! ### The trace languages (R184) -/

/-- A set of traces. -/
abbrev TraceLang := List Event → Prop

/-- One trace after another. -/
def TraceLang.seq (a b : TraceLang) : TraceLang := fun t => ∃ x y, t = x ++ y ∧ a x ∧ b y

/-- Several traces in a row. -/
def TraceLang.concat : List TraceLang → TraceLang
  | [] => fun t => t = []
  | a :: rest => TraceLang.seq a (TraceLang.concat rest)

/-- `W(b)`. -/
def wroteLang (b : Byte) : TraceLang := fun t => t = [.wrote b]

/-- `r`: one read event with any answer. -/
def readLang : TraceLang := fun t => ∃ a : Answer, t = [answerEvent a]

/-- The number of discarded reads a POLL may make before a read that ends it by match or timeout. -/
def pollDiscardsAllowed (bound : Option PollBound) (k : Nat) : Prop :=
  match bound with
  | none => True
  | some b => k + 1 ≤ b.n

/-- `poll`: discarded bytes, each different from 0x12, and then 0x12 or a timeout; or the bound's number of
discarded bytes. -/
def pollLang (bound : Option PollBound) : TraceLang := fun t =>
  ∃ vs : List Byte, (∀ v ∈ vs, v ≠ Config.expect) ∧
    ((pollDiscardsAllowed bound vs.length ∧
        (t = vs.map Event.read ++ [.read Config.expect] ∨ t = vs.map Event.read ++ [.timeout])) ∨
      (bound.map PollBound.n = some vs.length ∧ t = vs.map Event.read))

/-- `START(p)`. -/
def startLang (p : Payload) (bound : Option PollBound) : TraceLang :=
  TraceLang.concat [wroteLang 0x64, readLang, wroteLang 0x64, readLang, wroteLang 0x1E, pollLang bound,
    wroteLang 0x64, readLang, wroteLang 0x2C, readLang, wroteLang p[0], readLang, wroteLang p[1], readLang,
    wroteLang p[2], readLang, wroteLang p[3], readLang, wroteLang 0x00, pollLang bound]

/-- `STOP_head`. -/
def stopHeadLang (bound : Option PollBound) : TraceLang :=
  TraceLang.concat [wroteLang 0x64, readLang, wroteLang 0x2B, pollLang bound, wroteLang 0x0A]

/-- `Cap_i` with the byte `v`. -/
def capLang (v : Byte) : TraceLang := fun t => t = [.read v, .wrote v]

/-- `STOP_tail`. -/
def stopTailLang (bound : Option PollBound) : TraceLang :=
  TraceLang.concat [wroteLang 0x4E, readLang, wroteLang 0x00, wroteLang 0x64, readLang, wroteLang 0x82,
    pollLang bound]

/-- `STOP` with the verdict `Complete(OK)` and the captured bytes `bs`. -/
def stopOkLang (bound : Option PollBound) (bs : Response) : TraceLang :=
  TraceLang.concat [stopHeadLang bound, capLang bs[0], capLang bs[1], capLang bs[2], stopTailLang bound]

/-- A timeout of a read. -/
def timeoutLang : TraceLang := fun t => t = [.timeout]

/-- `STOP` with the verdict `Complete(QUERY_FAIL_(i+1))`, after the captures of the bytes `vs`. -/
def stopFailLang (bound : Option PollBound) (vs : List Byte) : TraceLang :=
  TraceLang.concat (stopHeadLang bound :: (vs.map capLang ++ [timeoutLang]))

end Sys2Proof.Machine
end

