-- ==== Sys2Proof/Safety.lean ====
section
/-! DEFINITION. Safety.lean: what a legal state is, when the trace of a running command conforms, and the words the
statements about runs are made of. -/

namespace Sys2Proof.Machine

/-- R135: the step a running script is at. -/
def State.currentStep (s : State) : Option Instr :=
  match s.rom.word s.script s.step.val with
  | none => none
  | some w => (decodeStepWord w).toOption

/-- R136: the combinations of kind and phase that occur. -/
def phaseFits (i : Instr) (p : Phase) : Bool :=
  match i, p with
  | .ack _, .w => true
  | .ack _, .r => true
  | .ackp _, .w => true
  | .ackp _, .r => true
  | .poll _ _, .w => true
  | .poll _ _, .r => true
  | .write _, .w => true
  | .capture _, .r => true
  | .capture _, .e => true
  | _, _ => false

/-- R140: the block is reading in a POLL step. -/
def State.polling (s : State) : Bool :=
  match s.currentStep, s.phase with
  | some (.poll _ _), .r => true
  | _, _ => false

/-- The stop script has read the byte of the CAPTURE with index `i` (R78: it is step `4 + i`). -/
def State.hasCaptured (s : State) (i : Fin 3) : Bool :=
  decide (4 + i.val < s.step.val) || (decide (s.step.val = 4 + i.val) && s.phase == .e)

/-- R28, R144: what the poll counter may hold. -/
def pollCntFits (bound : Option PollBound) (cnt : Nat) : Prop :=
  match bound with
  | none => cnt = 0
  | some b => cnt < b.n

/-- The states a block can be in (R25 to R29, R34, R136, U11, U14). -/
structure State.Legal (s : State) : Prop where
  /-- R34, R63: the ROM has its fixed contents. -/
  rom : s.rom = Rom.contents
  /-- R205: the code 6 is never written. -/
  status : s.status ≠ .decodeFail
  /-- R25, R27: the sequencer registers of an idle block. -/
  idle : s.script = .idle → s.step = 0 ∧ s.phase = .w
  /-- R25, R136: a running script is at a step that has a micro-step in this phase. -/
  running : s.script ≠ .idle → ∃ i, s.currentStep = some i ∧ phaseFits i s.phase = true
  /-- R28, R144: the poll counter stays below the bound. -/
  pollCnt : pollCntFits s.pollMaxReads s.pollCnt
  /-- R23: while the stop script runs the valid flags say which bytes were captured. -/
  valid : s.script = .stop → ∀ i : Fin 3, s.capValid[i] = s.hasCaptured i
  /-- R21, R81, R82: the payload the start script sends has the reserved byte 0x00 and a sign byte 0x00 or 0x01. -/
  payload : s.script = .start → s.pay[2] = 0x00 ∧ (s.pay[3] = 0x00 ∨ s.pay[3] = 0x01)

/-- R180: the validator's inputs for the command a state runs. -/
def State.validatorInput (s : State) : ValidatorInput := ⟨s.script, s.pay, s.pollMaxReads⟩

/-- R181, R186: the validator's state stands for the sequencer's registers. -/
structure Mirrors (v : ValidatorState) (s : State) : Prop where
  step : v.step = s.step
  phase : v.phase = s.phase
  pollCnt : s.polling = true → v.pollCnt = s.pollCnt
  noBound : s.pollMaxReads = none → v.pollCnt = 0
  captured : s.script = .stop → ∀ i : Fin 3, s.capValid[i] = true → v.c[i] = s.cap[i]

/-- R186 (a): the validator accepts every event of a running command's trace and stands where the sequencer is. -/
def State.TraceConforms (s : State) : Prop :=
  s.busy = true → ∃ v, validatorRun s.validatorInput s.trace = .live v s.trace.length ∧ Mirrors v s

/-- R66: the state after a read that the environment answers with `a`: the answer is consumed, or drawn where the
state lists none, and its event is recorded. -/
def State.consume (s : State) (a : Answer) : State :=
  { s with
    answers := s.answers.tail
    draws := if s.answers = [] then s.draws + 1 else s.draws
    trace := s.trace ++ [answerEvent a] }

/-- R66: `a` is an answer the environment may give to the next read of `s`: the listed one, or any where none is
listed. -/
def State.mayAnswer (s : State) (a : Answer) : Prop := ∀ x, s.answers.head? = some x → a = x

/-- The bytes written, in order. -/
def writesOf (t : List Event) : List Byte :=
  t.filterMap fun
    | .wrote b => some b
    | .read _ => none
    | .timeout => none

/-- R145: how many reads a trace makes. -/
def readsOf (t : List Event) : Nat :=
  t.countP fun
    | .wrote _ => false
    | .read _ => true
    | .timeout => true

/-- R186 (b): the answer stream read off a trace. -/
def answersOf (t : List Event) : List Answer :=
  t.filterMap fun
    | .wrote _ => none
    | .read b => some (.byte b)
    | .timeout => some .timeout

/-- R234, R170: two running commands that no step can tell apart: the same script at the same place, the same
answers to come, and the same of what the script still reads. -/
structure SameCommand (s t : State) : Prop where
  script : s.script = t.script
  step : s.step = t.step
  phase : s.phase = t.phase
  bound : s.pollMaxReads = t.pollMaxReads
  answers : s.answers = t.answers
  draws : s.draws = t.draws
  pollCnt : s.polling = true → s.pollCnt = t.pollCnt
  payload : s.script = .start → s.pay = t.pay
  captured : s.script = .stop → ∀ i : Fin 3, s.hasCaptured i = true → s.cap[i] = t.cap[i]

end Sys2Proof.Machine
end

