-- ==== Sys2Proof/Certificates/Slice0/Obligations.lean ====
section
/-! DEFINITION. Certificates/Slice0/Obligations.lean: the statements for the provers. Each cites the rule of the spec
it formalises; OBLIGATIONS.json lists them. -/

open Sys2Proof Sys2Proof.Machine

/-! ### Reset, the ROM and the words -/

/-- R230: what reset leaves in every register whose value the table of R38 gives, and that the block accepts a
command then. -/
def Obligations.ResetRegisterValues : Prop :=
  State.reset.script = .idle ∧ State.reset.step = 0 ∧ State.reset.phase = .w ∧ State.reset.pollCnt = 0 ∧
    State.reset.status = .ok ∧ State.reset.capValid = #v[false, false, false] ∧
    State.reset.rom = Rom.contents ∧ State.reset.trace = [] ∧
    ∀ w i, decodeCmdWord w = .instr i → step (State.reset.queue [w]) = exec i State.reset

/-- R230, R232: the reset input is taken in every state, running or idle: the registers of the table of R38 take its
values, the ROM, the parameter and the inputs stay, and no answer is consumed. -/
def Obligations.ResetTakenInEveryState : Prop :=
  ∀ s : State, s.resetReq = true → ∃ t, step s = .next t ∧
    t.script = .idle ∧ t.step = 0 ∧ t.phase = .w ∧ t.pollCnt = 0 ∧ t.status = .ok ∧
    t.capValid = #v[false, false, false] ∧ t.trace = [] ∧ t.rom = s.rom ∧ t.pollMaxReads = s.pollMaxReads ∧
    t.port = s.port ∧ t.answers = s.answers ∧ t.resetReq = false

/-- R77, R78: the twenty words of the script ROM, each with the step it decodes to. -/
def Obligations.RomHoldsTheTwoScripts : Prop :=
  Rom.contents.start.toList.map (fun w => (w.toNat, decodeStepWord w)) =
      [(0x006400, .instr (.ack 0x64)), (0x006400, .instr (.ack 0x64)), (0x401E12, .instr (.poll 0x1E 0x12)),
        (0x006400, .instr (.ack 0x64)), (0x002C00, .instr (.ack 0x2C)), (0x200000, .instr (.ackp 0)),
        (0x210000, .instr (.ackp 1)), (0x220000, .instr (.ackp 2)), (0x230000, .instr (.ackp 3)),
        (0x400012, .instr (.poll 0x00 0x12))] ∧
    Rom.contents.stop.toList.map (fun w => (w.toNat, decodeStepWord w)) =
      [(0x006400, .instr (.ack 0x64)), (0x402B12, .instr (.poll 0x2B 0x12)), (0x600A00, .instr (.write 0x0A)),
        (0x800000, .instr (.capture 0)), (0x810000, .instr (.capture 1)), (0x820000, .instr (.capture 2)),
        (0x004E00, .instr (.ack 0x4E)), (0x600000, .instr (.write 0x00)), (0x006400, .instr (.ack 0x64)),
        (0x408212, .instr (.poll 0x82 0x12))]

/-- R76, R79: a few words, written out from the layouts of the spec, decode to the instructions they stand for. -/
def Obligations.SampleWordsDecode : Prop :=
  decodeTableWord 24 0b000000000010110000000000 = some (.ack 0x2C) ∧
    decodeTableWord 24 0b001000110000000000000000 = some (.ackp 3) ∧
    decodeTableWord 24 0b010000001000001000010010 = some (.poll 0x82 0x12) ∧
    decodeTableWord 24 0b011000000000101000000000 = some (.write 0x0A) ∧
    decodeTableWord 24 0b100000100000000000000000 = some (.capture 2) ∧
    decodeTableWord 40 0b00111111111111111111111110000011000 = some (.encode (-1000)) ∧
    decodeTableWord 40 0b01010101011000000001101111000000001 = some (.decode 0xAB 0x00 0xDE 0x01) ∧
    decodeTableWord 40 0b01100000000000000000000001111101000 = some (.setCurrent 1000) ∧
    decodeTableWord 40 0b10011011110101011011011111011101111 = some (.stopQuery 0xDEADBEEF)

/-- R76, R79: decoding the word of an instruction gives the instruction, for every operand. -/
def Obligations.DecodeOfEncodeIsTheInstruction : Prop :=
  ∀ i : Instr, decodeWord (encodeInstr i) = .instr i

/-- R76, R79: a word that decodes to an instruction is the word of that instruction: no bit of an accepted word is
dropped. -/
def Obligations.EncodeOfDecodeIsTheWord : Prop :=
  ∀ (e : Encoded) (i : Instr), decodeWord e = .instr i → encodeInstr i = e

/-- R83, R84: the decoder rejects exactly the reserved words, and a running script whose ROM entry were a reserved
word would be refused by name. -/
def Obligations.ReservedWordsAreRefused : Prop :=
  (∀ e : Encoded, (∃ why, decodeWord e = .reject why) ↔ e.wellFormed = false) ∧
    ∀ (s : State) (w : StepWord), s.resetReq = false → s.busy = true →
      s.rom.word s.script s.step.val = some w → StepWord.wellFormed w = false →
      step s = .refused (.reservedStepWord w)

/-! ### What a step runs -/

/-- R135: while a script runs, the step runs the ROM entry of the current step, with nothing around it. -/
def Obligations.StepRunsTheFetchedStep : Prop :=
  ∀ (s : State) (w : StepWord) (i : Instr), s.resetReq = false → s.busy = true →
    s.rom.word s.script s.step.val = some w → decodeStepWord w = .instr i → step s = exec i s

/-- R31, R164: an idle block runs the command word presented at its port, which leaves the port. -/
def Obligations.StepRunsThePresentedCommand : Prop :=
  ∀ (s : State) (w : CmdWord) (rest : List CmdWord) (i : Instr), s.resetReq = false → s.busy = false →
    s.port = w :: rest → decodeCmdWord w = .instr i → step s = exec i { s with port := rest }

/-- R165: with no command presented an idle block keeps every register; with one, it performs no transport
primitive. -/
def Obligations.IdleBlockTouchesNoTransport : Prop :=
  (∀ s : State, s.resetReq = false → s.busy = false → s.port = [] → step s = .next s) ∧
    ∀ (s t : State), s.resetReq = false → s.busy = false → step s = .next t →
      t.answers = s.answers ∧ t.draws = s.draws ∧ (t.trace = s.trace ∨ t.trace = [])

/-- R166: a reserved opcode, presented when the block is idle, sets the status and does nothing else. -/
def Obligations.ReservedOpcodeOnlySetsStatus : Prop :=
  ∀ (s : State) (w : CmdWord) (rest : List CmdWord), s.resetReq = false → s.busy = false → s.port = w :: rest →
    (cmdOp w = 0b000 ∨ cmdOp w = 0b101 ∨ cmdOp w = 0b110 ∨ cmdOp w = 0b111) →
    step s = .next { s with port := rest, status := .illegalCmd }

/-- R164: a command is accepted only when the block is idle, with no transport primitive; while a script runs a
presented command has no effect on any state, and what stands at the port makes no difference to the step. -/
def Obligations.CommandsAcceptedOnlyWhenIdle : Prop :=
  (∀ (i : Instr) (s : State), i.isStep = false → s.busy = true → exec i s = .next s) ∧
    (∀ (i : Instr) (s : State), i.isStep = false → s.busy = false →
      ∃ t, exec i s = .next t ∧ t.answers = s.answers ∧ t.draws = s.draws ∧
        (t.trace = s.trace ∨ t.trace = [])) ∧
    ∀ (s t : State) (p : List CmdWord), s.resetReq = false → s.busy = true → step s = .next t →
      step { s with port := p } = .next { t with port := p }

/-! ### The encoder -/

/-- R104, R105: `counts` is the integer nearest to `m * 316/975`, and no operand is half way between two. -/
def Obligations.CountsIsTheNearestInteger : Prop :=
  (∀ m : Nat, 1950 * counts m ≤ 632 * m + 975 ∧ 632 * m + 975 < 1950 * (counts m + 1)) ∧
    (∀ m : Nat, (632 * m + 975) % 1950 ≠ 0) ∧ ∀ m : Nat, m ≤ 2147483648 → counts m ≤ 696004957

/-- R108: out of range is refused exactly beyond 202206 mA either way. -/
def Obligations.EncodeRefusesExactlyOutOfRange : Prop :=
  (∀ m : Nat, counts m ≤ 0xFFFF ↔ m ≤ 202206) ∧
    ∀ ma : BitVec 32, encodeCurrent ma = .range ↔ ma.toInt < -202206 ∨ 202206 < ma.toInt

/-- R101, R102, R106, R107: the four payload bytes of an operand in range. -/
def Obligations.EncodePayloadBytes : Prop :=
  ∀ ma : BitVec 32, -202206 ≤ ma.toInt → ma.toInt ≤ 202206 →
    ∃ p, encodeCurrent ma = .ok p ∧ p[0].toNat = (632 * ma.toInt.natAbs + 975) / 1950 / 256 ∧
      p[1].toNat = (632 * ma.toInt.natAbs + 975) / 1950 % 256 ∧ p[2] = 0x00 ∧
      p[3] = (if 0 ≤ ma.toInt then 0x01 else 0x00)

/-- R111: the sign law, on the whole domain of `Encode`. -/
def Obligations.EncodeSignLaw : Prop :=
  ∀ (ma : BitVec 32) (p : Payload), encodeCurrent ma = .ok p → (p[3] = 0x01 ↔ 0 ≤ ma.toInt)

/-- R110 (g): `counts` is non-decreasing, grows by at most 1 per milliamp, and the payloads of a positive operand
and of its negative differ only in the sign byte. -/
def Obligations.EncodeMonotoneAndSymmetric : Prop :=
  (∀ m n : Nat, m ≤ n → counts m ≤ counts n) ∧ (∀ m : Nat, counts (m + 1) ≤ counts m + 1) ∧
    ∀ (ma : BitVec 32) (p : Payload), 0 < ma.toInt → encodeCurrent ma = .ok p →
      encodeCurrent (-ma) = .ok (p.set 3 0x00) ∧ p[3] = 0x01

/-- D1: every 16-bit count is the encoding of some whole number of milliamps. -/
def Obligations.EveryCountIsEncoded : Prop :=
  ∀ high low : Byte, ∃ ma : BitVec 32, encodeCurrent ma = .ok #v[high, low, 0x00, 0x01]

/-! ### The decoder -/

/-- R121, R122, R123: the decoded magnitude, sign and signed value, and its 17-bit view. -/
def Obligations.FieldDecodeValues : Prop :=
  ∀ b1 b2 b3 : Byte,
    (fieldDecode b1 b2 b3).mag.toNat = b1.toNat * 256 + b2.toNat ∧
      ((fieldDecode b1 b2 b3).neg = true ↔ b3 = 0x01) ∧
      fieldDmt (fieldDecode b1 b2 b3) =
        (if b3 = 0x01 then -((b1.toNat * 256 + b2.toNat : Nat) : Int) else ((b1.toNat * 256 + b2.toNat : Nat) : Int)) ∧
      -65535 ≤ fieldDmt (fieldDecode b1 b2 b3) ∧ fieldDmt (fieldDecode b1 b2 b3) ≤ 65535 ∧
      (fieldDmtBits (fieldDecode b1 b2 b3)).toInt = fieldDmt (fieldDecode b1 b2 b3)

/-- R128: the sign-flip law. -/
def Obligations.FieldDecodeSignFlip : Prop :=
  ∀ b1 b2 : Byte, (fieldDecode b1 b2 0x01).mag = (fieldDecode b1 b2 0x00).mag ∧
    (fieldDecode b1 b2 0x01).neg = !(fieldDecode b1 b2 0x00).neg ∧
    fieldDmt (fieldDecode b1 b2 0x01) = -fieldDmt (fieldDecode b1 b2 0x00)

/-! ### The commands -/

/-- R160: what ENCODE does to an idle block, in range and out of range; no event is added to the
trace, which goes on or begins anew. -/
def Obligations.EncodeCommandResult : Prop :=
  ∀ (ma : BitVec 32) (s : State), s.busy = false →
    ∃ g, (g = s.trace ∨ g = []) ∧
      (-202206 ≤ ma.toInt ∧ ma.toInt ≤ 202206 → exec (.encode ma) s = .next
        { s with
          trace := g
          pay := #v[BitVec.ofNat 8 ((632 * ma.toInt.natAbs + 975) / 1950 / 256),
            BitVec.ofNat 8 ((632 * ma.toInt.natAbs + 975) / 1950 % 256), 0x00,
            if 0 ≤ ma.toInt then 0x01 else 0x00]
          status := .ok }) ∧
      (ma.toInt < -202206 ∨ 202206 < ma.toInt →
        exec (.encode ma) s = .next { s with trace := g, status := .encodeRange })

/-- R161: what DECODE does to an idle block; no event is added to the
trace, which goes on or begins anew. -/
def Obligations.DecodeCommandResult : Prop :=
  ∀ (ign b1 b2 b3 : Byte) (s : State), s.busy = false →
    ∃ g, (g = s.trace ∨ g = []) ∧ exec (.decode ign b1 b2 b3) s = .next
      { s with
        trace := g
        resMag := BitVec.ofNat 16 (b1.toNat * 256 + b2.toNat)
        resNeg := decide (b3 = 0x01)
        status := .ok }

/-- R162: what the acceptance of SET_CURRENT does to an idle block, in range and out of range; no event is added
to the trace, which goes on or begins anew. -/
def Obligations.SetCurrentAcceptance : Prop :=
  ∀ (ma : BitVec 32) (s : State), s.busy = false →
    ∃ g, (g = s.trace ∨ g = []) ∧
      (-202206 ≤ ma.toInt ∧ ma.toInt ≤ 202206 → exec (.setCurrent ma) s = .next
        { s with
          trace := g
          pay := #v[BitVec.ofNat 8 ((632 * ma.toInt.natAbs + 975) / 1950 / 256),
            BitVec.ofNat 8 ((632 * ma.toInt.natAbs + 975) / 1950 % 256), 0x00,
            if 0 ≤ ma.toInt then 0x01 else 0x00]
          script := .start
          step := 1
          phase := .w }) ∧
      (ma.toInt < -202206 ∨ 202206 < ma.toInt →
        exec (.setCurrent ma) s = .next { s with trace := g, status := .encodeRange })

/-- R163: what the acceptance of STOP_QUERY does to an idle block; no event is added to the trace, which goes on or
begins anew. -/
def Obligations.StopQueryAcceptance : Prop :=
  ∀ (ign : BitVec 32) (s : State), s.busy = false →
    ∃ g, (g = s.trace ∨ g = []) ∧ exec (.stopQuery ign) s = .next
      { s with trace := g, capValid := #v[false, false, false], script := .stop, step := 1, phase := .w }

/-- D19: the ignored argument bits of DECODE and STOP_QUERY make no difference to the step that takes the word. -/
def Obligations.IgnoredArgumentBitsMakeNoDifference : Prop :=
  ∀ (s : State) (w w' : CmdWord) (rest : List CmdWord), s.resetReq = false → s.busy = false →
    cmdOp w = cmdOp w' →
    (cmdOp w = 0b100 ∨ (cmdOp w = 0b010 ∧ w.extractLsb' 0 24 = w'.extractLsb' 0 24)) →
    step { s with port := w :: rest } = step { s with port := w' :: rest }

/-- R160 to R163: what the four commands leave unchanged. -/
def Obligations.CommandFrame : Prop :=
  ∀ (s t : State),
    (∀ i : Instr, i.isStep = false → exec i s = .next t →
      t.rom = s.rom ∧ t.pollMaxReads = s.pollMaxReads ∧ t.port = s.port ∧ t.resetReq = s.resetReq ∧
        t.answers = s.answers ∧ t.draws = s.draws ∧ t.pollCnt = s.pollCnt ∧ t.cap = s.cap) ∧
      (∀ ma, exec (.encode ma) s = .next t →
        t.script = s.script ∧ t.step = s.step ∧ t.phase = s.phase ∧ t.capValid = s.capValid ∧
          t.resMag = s.resMag ∧ t.resNeg = s.resNeg) ∧
      (∀ ign b1 b2 b3, exec (.decode ign b1 b2 b3) s = .next t →
        t.script = s.script ∧ t.step = s.step ∧ t.phase = s.phase ∧ t.capValid = s.capValid ∧ t.pay = s.pay) ∧
      (∀ ma, exec (.setCurrent ma) s = .next t →
        t.capValid = s.capValid ∧ t.resMag = s.resMag ∧ t.resNeg = s.resNeg ∧
          (t.status = s.status ∨ t.script = s.script ∧ t.step = s.step ∧ t.phase = s.phase ∧ t.pay = s.pay)) ∧
      (∀ ign, exec (.stopQuery ign) s = .next t →
        t.pay = s.pay ∧ t.resMag = s.resMag ∧ t.resNeg = s.resNeg ∧ t.status = s.status)

/-! ### The step kinds -/

/-- R137: both micro-steps of ACK, for every answer. -/
def Obligations.AckResult : Prop :=
  ∀ (b : Byte) (s : State), s.busy = true →
    (s.phase = .w → exec (.ack b) s = .next { s with phase := .r, trace := s.trace ++ [.wrote b] }) ∧
      (s.phase = .r → ∃ a, s.mayAnswer a ∧ exec (.ack b) s = .next (s.consume a).advance)

/-- R138: both micro-steps of ACKP, for every answer. -/
def Obligations.AckpResult : Prop :=
  ∀ (i : Fin 4) (s : State), s.busy = true →
    (s.phase = .w → exec (.ackp i) s = .next { s with phase := .r, trace := s.trace ++ [.wrote s.pay[i]] }) ∧
      (s.phase = .r → ∃ a, s.mayAnswer a ∧ exec (.ackp i) s = .next (s.consume a).advance)

/-- R139: the write micro-step of POLL; the counter is cleared where it exists. -/
def Obligations.PollWriteResult : Prop :=
  ∀ (b e : Byte) (s : State), s.busy = true → s.phase = .w →
    ∃ c, (s.pollMaxReads ≠ none → c = 0) ∧
      exec (.poll b e) s = .next { s with phase := .r, pollCnt := c, trace := s.trace ++ [.wrote b] }

/-- R140: the read micro-step of POLL, for every answer and every `POLL_MAX_READS`. -/
def Obligations.PollReadResult : Prop :=
  ∀ (b e : Byte) (s : State), s.busy = true → s.phase = .r →
    ∃ a, s.mayAnswer a ∧
      ((a = .timeout ∨ a = .byte e ∨ ∃ n, s.pollMaxReads = some n ∧ n.n ≤ s.pollCnt + 1) →
        exec (.poll b e) s = .next (s.consume a).advance) ∧
      (¬(a = .timeout ∨ a = .byte e ∨ ∃ n, s.pollMaxReads = some n ∧ n.n ≤ s.pollCnt + 1) →
        ∃ c, (s.pollMaxReads ≠ none → c = s.pollCnt + 1) ∧
          exec (.poll b e) s = .next { s.consume a with pollCnt := c })

/-- R141: the one micro-step of WRITE. -/
def Obligations.WriteResult : Prop :=
  ∀ (b : Byte) (s : State), s.busy = true → s.phase = .w →
    exec (.write b) s = .next ({ s with trace := s.trace ++ [.wrote b] } : State).advance

/-- R142, R148: the read micro-step of CAPTURE, for every answer: a byte is stored, a timeout ends the script. -/
def Obligations.CaptureReadResult : Prop :=
  ∀ (i : Fin 3) (s : State), s.busy = true → s.phase = .r →
    ∃ a, s.mayAnswer a ∧
      (a = .timeout → exec (.capture i) s = .next
        { s.consume a with status := .queryFail i, script := .idle, step := 0, phase := .w }) ∧
      ∀ v, a = .byte v → exec (.capture i) s = .next
        { s.consume a with cap := s.cap.set i v, capValid := s.capValid.set i true, phase := .e }

/-- R143: the echo micro-step of CAPTURE writes the byte captured. -/
def Obligations.CaptureEchoResult : Prop :=
  ∀ (i : Fin 3) (s : State), s.busy = true → s.phase = .e →
    exec (.capture i) s = .next ({ s with trace := s.trace ++ [.wrote s.cap[i]] } : State).advance

/-- R146: `Advance()` enters the next step at its entry phase, and at step 10 it is `Finish()`. -/
def Obligations.AdvanceEntersTheNextStep : Prop :=
  (∀ (s : State) (w : StepWord) (i : Instr), s.step.val < 10 →
    s.rom.word s.script (s.step.val + 1) = some w → decodeStepWord w = .instr i →
    ∃ k : Fin 11, k.val = s.step.val + 1 ∧
      s.advance = { s with step := k, phase := match i with | .capture _ => .r | _ => .w }) ∧
    ∀ s : State, s.step.val = 10 → s.advance = s.finish

/-- R147: `Finish()` of the two scripts. -/
def Obligations.FinishResult : Prop :=
  ∀ s : State,
    (s.script = .start → s.finish = { s with status := .ok, script := .idle, step := 0, phase := .w }) ∧
      (s.script = .stop → s.finish =
        { s with
          resMag := BitVec.ofNat 16 (s.cap[0].toNat * 256 + s.cap[1].toNat)
          resNeg := decide (s.cap[2] = 0x01)
          status := .ok, script := .idle, step := 0, phase := .w })

/-- R136 (log entry 8): where a step kind has no micro-step, its meaning stops by name. -/
def Obligations.StepKindsStopWithoutAMicroStep : Prop :=
  ∀ (i : Instr) (s : State), i.isStep = true →
    (s.busy = false → exec i s = .fault .sequencerIdle) ∧
      (s.busy = true → phaseFits i s.phase = false → exec i s = .fault .noMicroStep)

/-- R137 to R143: what the five step kinds leave unchanged. -/
def Obligations.StepKindFrame : Prop :=
  ∀ (i : Instr) (s t : State), i.isStep = true → exec i s = .next t →
    (t.pay = s.pay ∧ t.rom = s.rom ∧ t.pollMaxReads = s.pollMaxReads ∧ t.port = s.port ∧
        t.resetReq = s.resetReq) ∧
      ((∀ k, i ≠ .capture k) → t.cap = s.cap ∧ t.capValid = s.capValid) ∧
      (∀ k, i = .capture k → ∀ j : Fin 3, j ≠ k → t.cap[j] = s.cap[j] ∧ t.capValid[j] = s.capValid[j]) ∧
      ((∀ b e, i ≠ .poll b e) → t.pollCnt = s.pollCnt) ∧
      (t.script ≠ .idle → t.script = s.script ∧ t.status = s.status) ∧
      (s.script ≠ .stop ∨ s.step ≠ 10 → t.resMag = s.resMag ∧ t.resNeg = s.resNeg) ∧
      (s.phase ≠ .r → t.answers = s.answers ∧ t.draws = s.draws)

/-! ### The running machine -/

/-- The state after reset is legal. -/
def Obligations.ResetIsLegal : Prop := State.reset.Legal

/-- R25 to R29, R34, R136: every step from a legal state leads to a legal state, whatever the environment does. -/
def Obligations.StepKeepsLegal : Prop :=
  ∀ s t : State, s.Legal → step s = .next t → t.Legal

/-- R136, R216: in a legal state a step never stops: no fault and no refusal. -/
def Obligations.LegalStatesAlwaysStep : Prop :=
  ∀ s : State, s.Legal → ∃ t, step s = .next t

/-- R136: a micro-step performs exactly one transport primitive: a read in phase R, a write in the others, and a
write takes no answer. -/
def Obligations.OnePrimitivePerMicroStep : Prop :=
  ∀ s : State, s.Legal → s.resetReq = false → s.busy = true → ∃ t, step s = .next t ∧
    ((s.phase = .r ∧ ∃ a, s.mayAnswer a ∧ t.trace = s.trace ++ [answerEvent a] ∧ t.answers = s.answers.tail) ∨
      (s.phase ≠ .r ∧ ∃ b, t.trace = s.trace ++ [.wrote b] ∧ t.answers = s.answers ∧ t.draws = s.draws))

/-- R34, R63: no step writes the script ROM, and none changes the parameter. -/
def Obligations.RomIsNeverWritten : Prop :=
  ∀ s t : State, step s = .next t → t.rom = s.rom ∧ t.pollMaxReads = s.pollMaxReads

/-- R21: `pay` is written only by an accepted ENCODE or SET_CURRENT in range, or lost in a reset. -/
def Obligations.PayloadWrittenOnlyByEncoding : Prop :=
  ∀ s t : State, s.resetReq = false → step s = .next t → t.pay ≠ s.pay →
    s.busy = false ∧ ∃ ma, encodeCurrent ma = .ok t.pay ∧
      ∃ w rest, s.port = w :: rest ∧
        (decodeCmdWord w = .instr (.encode ma) ∨ decodeCmdWord w = .instr (.setCurrent ma))

/-- R29, R249: while a script keeps running, the status and the result registers hold what the command before
left. -/
def Obligations.ResultsHoldWhileRunning : Prop :=
  ∀ s t : State, s.Legal → s.resetReq = false → s.busy = true → step s = .next t → t.busy = true →
    t.status = s.status ∧ t.resMag = s.resMag ∧ t.resNeg = s.resNeg ∧ t.script = s.script

/-- R203, R204, R208: a script ends only at its step 10 with `OK`, or at the timeout of a CAPTURE of the stop
script with the failure that names the capture, the flags of the captures before it, and the old Reading. -/
def Obligations.ScriptEndsAtStepTenOrAtACaptureTimeout : Prop :=
  ∀ s t : State, s.Legal → s.resetReq = false → s.busy = true → step s = .next t → t.busy = false →
    (s.step = 10 ∧ t.status = .ok) ∨
      ∃ i : Fin 3, s.script = .stop ∧ s.step.val = 4 + i.val ∧ t.status = .queryFail i ∧
        t.trace = s.trace ++ [.timeout] ∧ t.resMag = s.resMag ∧ t.resNeg = s.resNeg ∧ t.cap = s.cap ∧
        ∀ j : Fin 3, t.capValid[j] = decide (j.val < i.val)

/-- R222: whatever the environment answers, a running start script goes on or ends with `OK`. -/
def Obligations.StartScriptCannotFail : Prop :=
  ∀ s : State, s.Legal → s.resetReq = false → s.script = .start → ∃ t, step s = .next t ∧
    (t.script = .start ∨ (t.script = .idle ∧ t.status = .ok))

/-- R216: with no bound a POLL that keeps reading other bytes never moves on: only the trace grows. -/
def Obligations.UnboundedPollNeverMovesOn : Prop :=
  ∀ (s : State) (b e : Byte) (vs : List Byte) (rest : List Answer), s.resetReq = false →
    s.currentStep = some (.poll b e) → s.phase = .r → s.pollMaxReads = none → (∀ v ∈ vs, v ≠ e) →
    s.answers = vs.map Answer.byte ++ rest →
    Sys2Proof.core.run vs.length s =
      .next { s with answers := rest, trace := s.trace ++ vs.map Event.read }

/-- R144: with the bound `n` a POLL ends after its n-th non-matching read, exactly as after a timeout. -/
def Obligations.BoundedPollEndsAtItsBound : Prop :=
  ∀ (s : State) (b e : Byte) (n : PollBound) (vs : List Byte) (rest : List Answer), s.resetReq = false →
    s.currentStep = some (.poll b e) → s.phase = .r → s.pollMaxReads = some n → s.pollCnt = 0 →
    (∀ v ∈ vs, v ≠ e) → vs.length = n.n → s.answers = vs.map Answer.byte ++ rest →
    Sys2Proof.core.run n.n s =
      .next ({ s with
        answers := rest, trace := s.trace ++ vs.map Event.read, pollCnt := n.n - 1 } : State).advance

/-- R150: with the bound `n` every command that runs a script is over within `18 + 2 n` micro-steps. -/
def Obligations.BoundedCommandsEnd : Prop :=
  ∀ (s : State) (n : PollBound), s.Legal → s.resetReq = false → s.busy = true → s.pollMaxReads = some n →
    ∃ k t, k ≤ 18 + 2 * n.n ∧ Sys2Proof.core.run k s = .next t ∧ t.busy = false

/-- R234, R170: two commands at the same place, with the same operand and the same answers to come, make the same
transport event and stay alike, whatever else the states hold. -/
def Obligations.CommandDependsOnlyOnOperandAndAnswers : Prop :=
  ∀ s s' : State, s.Legal → s'.Legal → s.resetReq = false → s'.resetReq = false → s.busy = true →
    SameCommand s s' → ∃ t t' ev, step s = .next t ∧ step s' = .next t' ∧
      t.trace = s.trace ++ [ev] ∧ t'.trace = s'.trace ++ [ev] ∧
      ((t.busy = true ∧ SameCommand t t') ∨
        (t.busy = false ∧ t'.busy = false ∧ t.status = t'.status ∧ t.answers = t'.answers ∧
          (s.script = .stop → t.status = .ok → t.resMag = t'.resMag ∧ t.resNeg = t'.resNeg)))

/-- R234, R170: two acceptances of one command, with the same answers to come, start alike, whatever earlier
commands left. -/
def Obligations.AcceptedCommandsStartAlike : Prop :=
  ∀ (i : Instr) (s s' t t' : State), (∃ x, i = .setCurrent x) ∨ (∃ x, i = .stopQuery x) →
    s.busy = false → s'.busy = false → s.pollMaxReads = s'.pollMaxReads →
    s.answers = s'.answers → s.draws = s'.draws → exec i s = .next t → exec i s' = .next t' →
    SameCommand t t' ∨ (t.busy = false ∧ t'.busy = false ∧ t.status = .encodeRange ∧ t'.status = .encodeRange)

/-! ### The validator -/

/-- R186 (a): every step of the machine keeps the trace of the running command acceptable to the validator, which
stands where the sequencer stands. -/
def Obligations.StepKeepsTraceConforming : Prop :=
  ∀ s t : State, s.Legal → s.TraceConforms → step s = .next t → t.TraceConforms

/-- R186 (a): the trace of a command that ends has the verdict `Complete` with the sequencer's final status and, for
the stop script, the same three bytes and the same Reading. -/
def Obligations.FinishedTraceHasTheSequencersVerdict : Prop :=
  ∀ s t : State, s.Legal → s.TraceConforms → s.resetReq = false → s.busy = true → step s = .next t →
    t.busy = false →
    (validate s.validatorInput t.trace).status = some t.status ∧
      (s.script = .stop → t.status = .ok →
        validate s.validatorInput t.trace = .completeOk (some t.cap) ∧
          (validate s.validatorInput t.trace).reading = some t.reading)

/-- R186 (b): every trace with the verdict `Complete` or `Incomplete` is produced by the sequencer for the answers
read off the trace. -/
def Obligations.ConformingTracesAreProduced : Prop :=
  ∀ (inp : ValidatorInput) (tr : List Event) (s : State), inp.script ≠ .idle →
    (∀ n x, validate inp tr ≠ .violation n x) → s.script = inp.script → s.step = 1 → s.phase = .w →
    s.pay = inp.payload → s.pollMaxReads = inp.bound → s.rom = Rom.contents → s.resetReq = false →
    s.trace = [] → s.answers = answersOf tr →
    ∃ t, Sys2Proof.core.run tr.length s = .next t ∧ t.trace = tr

/-- R184: the traces the validator calls complete for the start script are the language START(p). -/
def Obligations.StartTracesAreTheLanguage : Prop :=
  ∀ (p : Payload) (bound : Option PollBound) (tr : List Event),
    validate ⟨.start, p, bound⟩ tr = .completeOk none ↔ startLang p bound tr

/-- R184: the traces the validator calls complete for the stop script are the four branches of the language STOP. -/
def Obligations.StopTracesAreTheLanguage : Prop :=
  ∀ (p : Payload) (bound : Option PollBound) (tr : List Event),
    (∀ c : Response, validate ⟨.stop, p, bound⟩ tr = .completeOk (some c) ↔ stopOkLang bound c tr) ∧
      ∀ i : Fin 3, validate ⟨.stop, p, bound⟩ tr = .completeFail i ↔
        ∃ vs : List Byte, vs.length = i.val ∧ stopFailLang bound vs tr

/-- R171: the ten bytes the block has written when a script ends with `OK`, for every answer stream. -/
def Obligations.WrittenBytesOfAFinishedScript : Prop :=
  ∀ s t : State, s.Legal → s.TraceConforms → s.resetReq = false → s.busy = true → step s = .next t →
    t.busy = false → t.status = .ok →
    (s.script = .start → writesOf t.trace =
      ([0x64, 0x64, 0x1E, 0x64, 0x2C, s.pay[0], s.pay[1], s.pay[2], s.pay[3], 0x00] : List Byte)) ∧
      (s.script = .stop → writesOf t.trace =
        ([0x64, 0x2B, 0x0A, t.cap[0], t.cap[1], t.cap[2], 0x4E, 0x00, 0x64, 0x82] : List Byte))

/-- R150: how many writes and reads a finished command has made. -/
def Obligations.EventCountsOfAFinishedScript : Prop :=
  ∀ s t : State, s.Legal → s.TraceConforms → s.resetReq = false → s.busy = true → step s = .next t →
    t.busy = false →
    (t.status = .ok → (writesOf t.trace).length = 10) ∧
      (t.status = .ok → s.script = .start → 10 ≤ readsOf t.trace) ∧
      (t.status = .ok → s.script = .stop → 8 ≤ readsOf t.trace) ∧
      ∀ i : Fin 3, t.status = .queryFail i →
        (writesOf t.trace).length = 3 + i.val ∧ 3 + i.val ≤ readsOf t.trace

/-! ### The host's side -/

/-- R167: what the host reads from the result port when a stop-and-query has ended, and that the port gives no
result while a script runs. -/
def Obligations.QueryResultAtTheEndOfAStopQuery : Prop :=
  (∀ s t : State, s.Legal → s.resetReq = false → s.script = .stop → step s = .next t → t.busy = false →
    (t.status = .ok → t.resultPort.queryResult =
      some (.reading (fieldDmt (fieldDecode s.cap[0] s.cap[1] s.cap[2])))) ∧
      ∀ i : Fin 3, t.status = .queryFail i →
        t.resultPort.queryResult = some (.failure (BitVec.ofNat 3 (i.val + 1)))) ∧
    ∀ s : State, s.busy = true → s.resultPort.queryResult = none

/-- R168, R169: a pulse is SET_CURRENT and then STOP_QUERY, with no transport primitive at either acceptance, and
STOP_QUERY follows although SET_CURRENT is out of range. -/
def Obligations.PulseIsTheTwoCommandsBackToBack : Prop :=
  (∀ (ma : BitVec 32) (s : State), s.resetReq = false → s.busy = false → s.port = [] →
    ∃ t, step (s.queue (facadePulse ma)) = .next t ∧ t.port = facadeStopAndQuery ∧
      t.answers = s.answers ∧ t.draws = s.draws ∧
      (-202206 ≤ ma.toInt ∧ ma.toInt ≤ 202206 → t.script = .start ∧ t.step = 1 ∧ t.phase = .w) ∧
      (¬(-202206 ≤ ma.toInt ∧ ma.toInt ≤ 202206) → t.script = .idle ∧ t.status = .encodeRange)) ∧
    ∀ s : State, s.resetReq = false → s.busy = false → s.port = facadeStopAndQuery →
      ∃ t, step s = .next t ∧ t.port = [] ∧ t.answers = s.answers ∧ t.draws = s.draws ∧ t.pay = s.pay ∧
        t.script = .stop ∧ t.step = 1 ∧ t.phase = .w
end

