-- ==== Sys2Proof/Laws/Encoder.lean ====
section
/-! SUPPORT. Laws/Encoder.lean: what each function of the CurrentEncoder returns (R101 to R109). -/

namespace Sys2Proof.Machine

/-- R104, R101: the counts of an operand, written out. -/
theorem counts_eq (m : Nat) : counts m = (632 * m + 975) / 1950 := rfl

/-- R106: the high byte as a number. -/
theorem highByte_toNat (c : Nat) : (highByte c).toNat = c / 256 % 256 := by
  simp only [highByte, BitVec.toNat_ofNat, Nat.shiftRight_eq_div_pow]

/-- R106: the low byte as a number. -/
theorem lowByte_toNat (c : Nat) : (lowByte c).toNat = c % 256 := by
  have h : c &&& 255 = c % 2 ^ 8 := Nat.and_two_pow_sub_one_eq_mod c 8
  simp only [lowByte, BitVec.toNat_ofNat, h]
  omega

/-- R106: the bytes of counts as byte literals. -/
theorem highByte_eq (c : Nat) : highByte c = BitVec.ofNat 8 (c / 256) := by
  apply BitVec.eq_of_toNat_eq
  rw [highByte_toNat, BitVec.toNat_ofNat]

/-- R106: the bytes of counts as byte literals. -/
theorem lowByte_eq (c : Nat) : lowByte c = BitVec.ofNat 8 (c % 256) := by
  apply BitVec.eq_of_toNat_eq
  rw [lowByte_toNat, BitVec.toNat_ofNat]
  omega

/-- R108: when counts fit two payload bytes. -/
theorem countsFit_iff (c : Nat) : countsFit c = true ↔ c ≤ 65535 := by
  rw [countsFit, decide_eq_true_iff]

/-- R109: `Encode` in range. -/
theorem encodeCurrent_of_fits {ma : BitVec 32} (h : counts (milliampMagnitude ma) ≤ 65535) :
    encodeCurrent ma = .ok (payloadOf (counts (milliampMagnitude ma)) (signByte ma)) := by
  rw [encodeCurrent, if_pos ((countsFit_iff _).2 h)]

/-- R108, R109: `Encode` out of range. -/
theorem encodeCurrent_of_not_fits {ma : BitVec 32} (h : ¬counts (milliampMagnitude ma) ≤ 65535) :
    encodeCurrent ma = .range := by
  rw [encodeCurrent, if_neg fun x => h ((countsFit_iff _).1 x)]

end Sys2Proof.Machine
end

