-- ==== Sys2Proof/Laws/Encoding.lean ====
section
/-! SUPPORT. Laws/Encoding.lean: words as numbers: what packing fields and taking them out does (R76, R79). -/

namespace Sys2Proof

/-- R6: `{a, b}` as a number. -/
theorem append_toNat {n m : Nat} (x : BitVec n) (y : BitVec m) :
    (x ++ y).toNat = x.toNat * 2 ^ m + y.toNat := by
  rw [BitVec.toNat_append, ← Nat.shiftLeft_add_eq_or_of_lt y.isLt, Nat.shiftLeft_eq]

/-- R6: `v[hi:lo]` as a number. -/
theorem slice_toNat {w : Nat} (x : BitVec w) (lo n : Nat) :
    (x.extractLsb' lo n).toNat = x.toNat / 2 ^ lo % 2 ^ n := by
  rw [BitVec.extractLsb'_toNat, Nat.shiftRight_eq_div_pow]

/-- R76: a packed step word as a number. -/
theorem packStep_toNat (kind : BitVec 3) (idx : BitVec 2) (wbyte expect : Byte) :
    (packStep kind idx wbyte expect).toNat =
      kind.toNat * 2097152 + idx.toNat * 65536 + wbyte.toNat * 256 + expect.toNat := by
  simp only [packStep, append_toNat, BitVec.toNat_ofNat]
  omega

/-- R79: a packed command word as a number. -/
theorem packCmd_toNat (op : BitVec 3) (arg : BitVec 32) :
    (packCmd op arg).toNat = op.toNat * 4294967296 + arg.toNat := by
  have := append_toNat op arg
  unfold packCmd
  omega

/-- R76: the fields of a packed step word are the fields it was packed from. -/
theorem packStep_fields (kind : BitVec 3) (idx : BitVec 2) (wbyte expect : Byte) :
    stepKind (packStep kind idx wbyte expect) = kind ∧ stepZero (packStep kind idx wbyte expect) = 0#3 ∧
      stepIdx (packStep kind idx wbyte expect) = idx ∧ stepWbyte (packStep kind idx wbyte expect) = wbyte ∧
      stepExpect (packStep kind idx wbyte expect) = expect := by
  have := kind.isLt
  have := idx.isLt
  have := wbyte.isLt
  have := expect.isLt
  refine ⟨?_, ?_, ?_, ?_, ?_⟩ <;> apply BitVec.eq_of_toNat_eq <;>
    simp only [stepKind, stepZero, stepIdx, stepWbyte, stepExpect, slice_toNat, packStep_toNat,
      BitVec.toNat_ofNat] <;> omega

/-- R79: the fields of a packed command word are the fields it was packed from. -/
theorem packCmd_fields (op : BitVec 3) (arg : BitVec 32) :
    cmdOp (packCmd op arg) = op ∧ cmdArg (packCmd op arg) = arg := by
  have := op.isLt
  have := arg.isLt
  refine ⟨?_, ?_⟩ <;> apply BitVec.eq_of_toNat_eq <;>
    simp only [cmdOp, cmdArg, slice_toNat, packCmd_toNat] <;> omega

end Sys2Proof
end

