-- ==== Sys2Proof/Laws/State.lean ====
section
/-! SUPPORT. Laws/State.lean: for each update of the state, what every field reads after it. -/

namespace Sys2Proof.Machine

variable (s : State)

/-! ### `State.setPayload` -/

@[simp] theorem State.setPayload_script (p : Payload) : (s.setPayload p).script = s.script := rfl
@[simp] theorem State.setPayload_step (p : Payload) : (s.setPayload p).step = s.step := rfl
@[simp] theorem State.setPayload_phase (p : Payload) : (s.setPayload p).phase = s.phase := rfl
@[simp] theorem State.setPayload_pollCnt (p : Payload) : (s.setPayload p).pollCnt = s.pollCnt := rfl
@[simp] theorem State.setPayload_status (p : Payload) : (s.setPayload p).status = s.status := rfl
@[simp] theorem State.setPayload_pay (p : Payload) : (s.setPayload p).pay = p := rfl
@[simp] theorem State.setPayload_cap (p : Payload) : (s.setPayload p).cap = s.cap := rfl
@[simp] theorem State.setPayload_capValid (p : Payload) : (s.setPayload p).capValid = s.capValid := rfl
@[simp] theorem State.setPayload_resMag (p : Payload) : (s.setPayload p).resMag = s.resMag := rfl
@[simp] theorem State.setPayload_resNeg (p : Payload) : (s.setPayload p).resNeg = s.resNeg := rfl
@[simp] theorem State.setPayload_rom (p : Payload) : (s.setPayload p).rom = s.rom := rfl
@[simp] theorem State.setPayload_trace (p : Payload) : (s.setPayload p).trace = s.trace := rfl
@[simp] theorem State.setPayload_pollMaxReads (p : Payload) : (s.setPayload p).pollMaxReads = s.pollMaxReads := rfl
@[simp] theorem State.setPayload_port (p : Payload) : (s.setPayload p).port = s.port := rfl
@[simp] theorem State.setPayload_resetReq (p : Payload) : (s.setPayload p).resetReq = s.resetReq := rfl
@[simp] theorem State.setPayload_answers (p : Payload) : (s.setPayload p).answers = s.answers := rfl
@[simp] theorem State.setPayload_draws (p : Payload) : (s.setPayload p).draws = s.draws := rfl

/-! ### `State.setCaptured` -/

@[simp] theorem State.setCaptured_script (i : Fin 3) (v : Byte) : (s.setCaptured i v).script = s.script := rfl
@[simp] theorem State.setCaptured_step (i : Fin 3) (v : Byte) : (s.setCaptured i v).step = s.step := rfl
@[simp] theorem State.setCaptured_phase (i : Fin 3) (v : Byte) : (s.setCaptured i v).phase = s.phase := rfl
@[simp] theorem State.setCaptured_pollCnt (i : Fin 3) (v : Byte) : (s.setCaptured i v).pollCnt = s.pollCnt := rfl
@[simp] theorem State.setCaptured_status (i : Fin 3) (v : Byte) : (s.setCaptured i v).status = s.status := rfl
@[simp] theorem State.setCaptured_pay (i : Fin 3) (v : Byte) : (s.setCaptured i v).pay = s.pay := rfl
@[simp] theorem State.setCaptured_cap (i : Fin 3) (v : Byte) : (s.setCaptured i v).cap = s.cap.set i v := rfl
@[simp] theorem State.setCaptured_capValid (i : Fin 3) (v : Byte) : (s.setCaptured i v).capValid = s.capValid := rfl
@[simp] theorem State.setCaptured_resMag (i : Fin 3) (v : Byte) : (s.setCaptured i v).resMag = s.resMag := rfl
@[simp] theorem State.setCaptured_resNeg (i : Fin 3) (v : Byte) : (s.setCaptured i v).resNeg = s.resNeg := rfl
@[simp] theorem State.setCaptured_rom (i : Fin 3) (v : Byte) : (s.setCaptured i v).rom = s.rom := rfl
@[simp] theorem State.setCaptured_trace (i : Fin 3) (v : Byte) : (s.setCaptured i v).trace = s.trace := rfl
@[simp] theorem State.setCaptured_pollMaxReads (i : Fin 3) (v : Byte) : (s.setCaptured i v).pollMaxReads = s.pollMaxReads := rfl
@[simp] theorem State.setCaptured_port (i : Fin 3) (v : Byte) : (s.setCaptured i v).port = s.port := rfl
@[simp] theorem State.setCaptured_resetReq (i : Fin 3) (v : Byte) : (s.setCaptured i v).resetReq = s.resetReq := rfl
@[simp] theorem State.setCaptured_answers (i : Fin 3) (v : Byte) : (s.setCaptured i v).answers = s.answers := rfl
@[simp] theorem State.setCaptured_draws (i : Fin 3) (v : Byte) : (s.setCaptured i v).draws = s.draws := rfl

/-! ### `State.setReading` -/

@[simp] theorem State.setReading_script (r : Reading) : (s.setReading r).script = s.script := rfl
@[simp] theorem State.setReading_step (r : Reading) : (s.setReading r).step = s.step := rfl
@[simp] theorem State.setReading_phase (r : Reading) : (s.setReading r).phase = s.phase := rfl
@[simp] theorem State.setReading_pollCnt (r : Reading) : (s.setReading r).pollCnt = s.pollCnt := rfl
@[simp] theorem State.setReading_status (r : Reading) : (s.setReading r).status = s.status := rfl
@[simp] theorem State.setReading_pay (r : Reading) : (s.setReading r).pay = s.pay := rfl
@[simp] theorem State.setReading_cap (r : Reading) : (s.setReading r).cap = s.cap := rfl
@[simp] theorem State.setReading_capValid (r : Reading) : (s.setReading r).capValid = s.capValid := rfl
@[simp] theorem State.setReading_resMag (r : Reading) : (s.setReading r).resMag = r.mag := rfl
@[simp] theorem State.setReading_resNeg (r : Reading) : (s.setReading r).resNeg = r.neg := rfl
@[simp] theorem State.setReading_rom (r : Reading) : (s.setReading r).rom = s.rom := rfl
@[simp] theorem State.setReading_trace (r : Reading) : (s.setReading r).trace = s.trace := rfl
@[simp] theorem State.setReading_pollMaxReads (r : Reading) : (s.setReading r).pollMaxReads = s.pollMaxReads := rfl
@[simp] theorem State.setReading_port (r : Reading) : (s.setReading r).port = s.port := rfl
@[simp] theorem State.setReading_resetReq (r : Reading) : (s.setReading r).resetReq = s.resetReq := rfl
@[simp] theorem State.setReading_answers (r : Reading) : (s.setReading r).answers = s.answers := rfl
@[simp] theorem State.setReading_draws (r : Reading) : (s.setReading r).draws = s.draws := rfl

/-! ### `State.setStatus` -/

@[simp] theorem State.setStatus_script (st : Status) : (s.setStatus st).script = s.script := rfl
@[simp] theorem State.setStatus_step (st : Status) : (s.setStatus st).step = s.step := rfl
@[simp] theorem State.setStatus_phase (st : Status) : (s.setStatus st).phase = s.phase := rfl
@[simp] theorem State.setStatus_pollCnt (st : Status) : (s.setStatus st).pollCnt = s.pollCnt := rfl
@[simp] theorem State.setStatus_status (st : Status) : (s.setStatus st).status = st := rfl
@[simp] theorem State.setStatus_pay (st : Status) : (s.setStatus st).pay = s.pay := rfl
@[simp] theorem State.setStatus_cap (st : Status) : (s.setStatus st).cap = s.cap := rfl
@[simp] theorem State.setStatus_capValid (st : Status) : (s.setStatus st).capValid = s.capValid := rfl
@[simp] theorem State.setStatus_resMag (st : Status) : (s.setStatus st).resMag = s.resMag := rfl
@[simp] theorem State.setStatus_resNeg (st : Status) : (s.setStatus st).resNeg = s.resNeg := rfl
@[simp] theorem State.setStatus_rom (st : Status) : (s.setStatus st).rom = s.rom := rfl
@[simp] theorem State.setStatus_trace (st : Status) : (s.setStatus st).trace = s.trace := rfl
@[simp] theorem State.setStatus_pollMaxReads (st : Status) : (s.setStatus st).pollMaxReads = s.pollMaxReads := rfl
@[simp] theorem State.setStatus_port (st : Status) : (s.setStatus st).port = s.port := rfl
@[simp] theorem State.setStatus_resetReq (st : Status) : (s.setStatus st).resetReq = s.resetReq := rfl
@[simp] theorem State.setStatus_answers (st : Status) : (s.setStatus st).answers = s.answers := rfl
@[simp] theorem State.setStatus_draws (st : Status) : (s.setStatus st).draws = s.draws := rfl

/-! ### `State.setValid` -/

@[simp] theorem State.setValid_script (i : Fin 3) : (s.setValid i).script = s.script := rfl
@[simp] theorem State.setValid_step (i : Fin 3) : (s.setValid i).step = s.step := rfl
@[simp] theorem State.setValid_phase (i : Fin 3) : (s.setValid i).phase = s.phase := rfl
@[simp] theorem State.setValid_pollCnt (i : Fin 3) : (s.setValid i).pollCnt = s.pollCnt := rfl
@[simp] theorem State.setValid_status (i : Fin 3) : (s.setValid i).status = s.status := rfl
@[simp] theorem State.setValid_pay (i : Fin 3) : (s.setValid i).pay = s.pay := rfl
@[simp] theorem State.setValid_cap (i : Fin 3) : (s.setValid i).cap = s.cap := rfl
@[simp] theorem State.setValid_capValid (i : Fin 3) : (s.setValid i).capValid = s.capValid.set i true := rfl
@[simp] theorem State.setValid_resMag (i : Fin 3) : (s.setValid i).resMag = s.resMag := rfl
@[simp] theorem State.setValid_resNeg (i : Fin 3) : (s.setValid i).resNeg = s.resNeg := rfl
@[simp] theorem State.setValid_rom (i : Fin 3) : (s.setValid i).rom = s.rom := rfl
@[simp] theorem State.setValid_trace (i : Fin 3) : (s.setValid i).trace = s.trace := rfl
@[simp] theorem State.setValid_pollMaxReads (i : Fin 3) : (s.setValid i).pollMaxReads = s.pollMaxReads := rfl
@[simp] theorem State.setValid_port (i : Fin 3) : (s.setValid i).port = s.port := rfl
@[simp] theorem State.setValid_resetReq (i : Fin 3) : (s.setValid i).resetReq = s.resetReq := rfl
@[simp] theorem State.setValid_answers (i : Fin 3) : (s.setValid i).answers = s.answers := rfl
@[simp] theorem State.setValid_draws (i : Fin 3) : (s.setValid i).draws = s.draws := rfl

/-! ### `State.clearValid` -/

@[simp] theorem State.clearValid_script : (s.clearValid).script = s.script := rfl
@[simp] theorem State.clearValid_step : (s.clearValid).step = s.step := rfl
@[simp] theorem State.clearValid_phase : (s.clearValid).phase = s.phase := rfl
@[simp] theorem State.clearValid_pollCnt : (s.clearValid).pollCnt = s.pollCnt := rfl
@[simp] theorem State.clearValid_status : (s.clearValid).status = s.status := rfl
@[simp] theorem State.clearValid_pay : (s.clearValid).pay = s.pay := rfl
@[simp] theorem State.clearValid_cap : (s.clearValid).cap = s.cap := rfl
@[simp] theorem State.clearValid_capValid : (s.clearValid).capValid = #v[false, false, false] := rfl
@[simp] theorem State.clearValid_resMag : (s.clearValid).resMag = s.resMag := rfl
@[simp] theorem State.clearValid_resNeg : (s.clearValid).resNeg = s.resNeg := rfl
@[simp] theorem State.clearValid_rom : (s.clearValid).rom = s.rom := rfl
@[simp] theorem State.clearValid_trace : (s.clearValid).trace = s.trace := rfl
@[simp] theorem State.clearValid_pollMaxReads : (s.clearValid).pollMaxReads = s.pollMaxReads := rfl
@[simp] theorem State.clearValid_port : (s.clearValid).port = s.port := rfl
@[simp] theorem State.clearValid_resetReq : (s.clearValid).resetReq = s.resetReq := rfl
@[simp] theorem State.clearValid_answers : (s.clearValid).answers = s.answers := rfl
@[simp] theorem State.clearValid_draws : (s.clearValid).draws = s.draws := rfl

/-! ### `State.emit` -/

@[simp] theorem State.emit_script (ev : Event) : (s.emit ev).script = s.script := rfl
@[simp] theorem State.emit_step (ev : Event) : (s.emit ev).step = s.step := rfl
@[simp] theorem State.emit_phase (ev : Event) : (s.emit ev).phase = s.phase := rfl
@[simp] theorem State.emit_pollCnt (ev : Event) : (s.emit ev).pollCnt = s.pollCnt := rfl
@[simp] theorem State.emit_status (ev : Event) : (s.emit ev).status = s.status := rfl
@[simp] theorem State.emit_pay (ev : Event) : (s.emit ev).pay = s.pay := rfl
@[simp] theorem State.emit_cap (ev : Event) : (s.emit ev).cap = s.cap := rfl
@[simp] theorem State.emit_capValid (ev : Event) : (s.emit ev).capValid = s.capValid := rfl
@[simp] theorem State.emit_resMag (ev : Event) : (s.emit ev).resMag = s.resMag := rfl
@[simp] theorem State.emit_resNeg (ev : Event) : (s.emit ev).resNeg = s.resNeg := rfl
@[simp] theorem State.emit_rom (ev : Event) : (s.emit ev).rom = s.rom := rfl
@[simp] theorem State.emit_trace (ev : Event) : (s.emit ev).trace = s.trace ++ [ev] := rfl
@[simp] theorem State.emit_pollMaxReads (ev : Event) : (s.emit ev).pollMaxReads = s.pollMaxReads := rfl
@[simp] theorem State.emit_port (ev : Event) : (s.emit ev).port = s.port := rfl
@[simp] theorem State.emit_resetReq (ev : Event) : (s.emit ev).resetReq = s.resetReq := rfl
@[simp] theorem State.emit_answers (ev : Event) : (s.emit ev).answers = s.answers := rfl
@[simp] theorem State.emit_draws (ev : Event) : (s.emit ev).draws = s.draws := rfl

/-! ### `State.txWrite` -/

@[simp] theorem State.txWrite_script (b : Byte) : (s.txWrite b).script = s.script := rfl
@[simp] theorem State.txWrite_step (b : Byte) : (s.txWrite b).step = s.step := rfl
@[simp] theorem State.txWrite_phase (b : Byte) : (s.txWrite b).phase = s.phase := rfl
@[simp] theorem State.txWrite_pollCnt (b : Byte) : (s.txWrite b).pollCnt = s.pollCnt := rfl
@[simp] theorem State.txWrite_status (b : Byte) : (s.txWrite b).status = s.status := rfl
@[simp] theorem State.txWrite_pay (b : Byte) : (s.txWrite b).pay = s.pay := rfl
@[simp] theorem State.txWrite_cap (b : Byte) : (s.txWrite b).cap = s.cap := rfl
@[simp] theorem State.txWrite_capValid (b : Byte) : (s.txWrite b).capValid = s.capValid := rfl
@[simp] theorem State.txWrite_resMag (b : Byte) : (s.txWrite b).resMag = s.resMag := rfl
@[simp] theorem State.txWrite_resNeg (b : Byte) : (s.txWrite b).resNeg = s.resNeg := rfl
@[simp] theorem State.txWrite_rom (b : Byte) : (s.txWrite b).rom = s.rom := rfl
@[simp] theorem State.txWrite_trace (b : Byte) : (s.txWrite b).trace = s.trace ++ [.wrote b] := rfl
@[simp] theorem State.txWrite_pollMaxReads (b : Byte) : (s.txWrite b).pollMaxReads = s.pollMaxReads := rfl
@[simp] theorem State.txWrite_port (b : Byte) : (s.txWrite b).port = s.port := rfl
@[simp] theorem State.txWrite_resetReq (b : Byte) : (s.txWrite b).resetReq = s.resetReq := rfl
@[simp] theorem State.txWrite_answers (b : Byte) : (s.txWrite b).answers = s.answers := rfl
@[simp] theorem State.txWrite_draws (b : Byte) : (s.txWrite b).draws = s.draws := rfl

/-! ### `State.setPollCnt` -/

@[simp] theorem State.setPollCnt_script (n : Nat) : (s.setPollCnt n).script = s.script := rfl
@[simp] theorem State.setPollCnt_step (n : Nat) : (s.setPollCnt n).step = s.step := rfl
@[simp] theorem State.setPollCnt_phase (n : Nat) : (s.setPollCnt n).phase = s.phase := rfl
@[simp] theorem State.setPollCnt_pollCnt (n : Nat) : (s.setPollCnt n).pollCnt = pollCntAfter s.pollMaxReads s.pollCnt n := rfl
@[simp] theorem State.setPollCnt_status (n : Nat) : (s.setPollCnt n).status = s.status := rfl
@[simp] theorem State.setPollCnt_pay (n : Nat) : (s.setPollCnt n).pay = s.pay := rfl
@[simp] theorem State.setPollCnt_cap (n : Nat) : (s.setPollCnt n).cap = s.cap := rfl
@[simp] theorem State.setPollCnt_capValid (n : Nat) : (s.setPollCnt n).capValid = s.capValid := rfl
@[simp] theorem State.setPollCnt_resMag (n : Nat) : (s.setPollCnt n).resMag = s.resMag := rfl
@[simp] theorem State.setPollCnt_resNeg (n : Nat) : (s.setPollCnt n).resNeg = s.resNeg := rfl
@[simp] theorem State.setPollCnt_rom (n : Nat) : (s.setPollCnt n).rom = s.rom := rfl
@[simp] theorem State.setPollCnt_trace (n : Nat) : (s.setPollCnt n).trace = s.trace := rfl
@[simp] theorem State.setPollCnt_pollMaxReads (n : Nat) : (s.setPollCnt n).pollMaxReads = s.pollMaxReads := rfl
@[simp] theorem State.setPollCnt_port (n : Nat) : (s.setPollCnt n).port = s.port := rfl
@[simp] theorem State.setPollCnt_resetReq (n : Nat) : (s.setPollCnt n).resetReq = s.resetReq := rfl
@[simp] theorem State.setPollCnt_answers (n : Nat) : (s.setPollCnt n).answers = s.answers := rfl
@[simp] theorem State.setPollCnt_draws (n : Nat) : (s.setPollCnt n).draws = s.draws := rfl

/-! ### `State.toIdle` -/

@[simp] theorem State.toIdle_script : (s.toIdle).script = .idle := rfl
@[simp] theorem State.toIdle_step : (s.toIdle).step = 0 := rfl
@[simp] theorem State.toIdle_phase : (s.toIdle).phase = .w := rfl
@[simp] theorem State.toIdle_pollCnt : (s.toIdle).pollCnt = s.pollCnt := rfl
@[simp] theorem State.toIdle_status : (s.toIdle).status = s.status := rfl
@[simp] theorem State.toIdle_pay : (s.toIdle).pay = s.pay := rfl
@[simp] theorem State.toIdle_cap : (s.toIdle).cap = s.cap := rfl
@[simp] theorem State.toIdle_capValid : (s.toIdle).capValid = s.capValid := rfl
@[simp] theorem State.toIdle_resMag : (s.toIdle).resMag = s.resMag := rfl
@[simp] theorem State.toIdle_resNeg : (s.toIdle).resNeg = s.resNeg := rfl
@[simp] theorem State.toIdle_rom : (s.toIdle).rom = s.rom := rfl
@[simp] theorem State.toIdle_trace : (s.toIdle).trace = s.trace := rfl
@[simp] theorem State.toIdle_pollMaxReads : (s.toIdle).pollMaxReads = s.pollMaxReads := rfl
@[simp] theorem State.toIdle_port : (s.toIdle).port = s.port := rfl
@[simp] theorem State.toIdle_resetReq : (s.toIdle).resetReq = s.resetReq := rfl
@[simp] theorem State.toIdle_answers : (s.toIdle).answers = s.answers := rfl
@[simp] theorem State.toIdle_draws : (s.toIdle).draws = s.draws := rfl

/-! ### `State.enter` -/

@[simp] theorem State.enter_script (sc : Script) : (s.enter sc).script = sc := rfl
@[simp] theorem State.enter_step (sc : Script) : (s.enter sc).step = 1 := rfl
@[simp] theorem State.enter_phase (sc : Script) : (s.enter sc).phase = .w := rfl
@[simp] theorem State.enter_pollCnt (sc : Script) : (s.enter sc).pollCnt = s.pollCnt := rfl
@[simp] theorem State.enter_status (sc : Script) : (s.enter sc).status = s.status := rfl
@[simp] theorem State.enter_pay (sc : Script) : (s.enter sc).pay = s.pay := rfl
@[simp] theorem State.enter_cap (sc : Script) : (s.enter sc).cap = s.cap := rfl
@[simp] theorem State.enter_capValid (sc : Script) : (s.enter sc).capValid = s.capValid := rfl
@[simp] theorem State.enter_resMag (sc : Script) : (s.enter sc).resMag = s.resMag := rfl
@[simp] theorem State.enter_resNeg (sc : Script) : (s.enter sc).resNeg = s.resNeg := rfl
@[simp] theorem State.enter_rom (sc : Script) : (s.enter sc).rom = s.rom := rfl
@[simp] theorem State.enter_trace (sc : Script) : (s.enter sc).trace = s.trace := rfl
@[simp] theorem State.enter_pollMaxReads (sc : Script) : (s.enter sc).pollMaxReads = s.pollMaxReads := rfl
@[simp] theorem State.enter_port (sc : Script) : (s.enter sc).port = s.port := rfl
@[simp] theorem State.enter_resetReq (sc : Script) : (s.enter sc).resetReq = s.resetReq := rfl
@[simp] theorem State.enter_answers (sc : Script) : (s.enter sc).answers = s.answers := rfl
@[simp] theorem State.enter_draws (sc : Script) : (s.enter sc).draws = s.draws := rfl

/-! ### `State.beginTrace` -/

@[simp] theorem State.beginTrace_script : (s.beginTrace).script = s.script := rfl
@[simp] theorem State.beginTrace_step : (s.beginTrace).step = s.step := rfl
@[simp] theorem State.beginTrace_phase : (s.beginTrace).phase = s.phase := rfl
@[simp] theorem State.beginTrace_pollCnt : (s.beginTrace).pollCnt = s.pollCnt := rfl
@[simp] theorem State.beginTrace_status : (s.beginTrace).status = s.status := rfl
@[simp] theorem State.beginTrace_pay : (s.beginTrace).pay = s.pay := rfl
@[simp] theorem State.beginTrace_cap : (s.beginTrace).cap = s.cap := rfl
@[simp] theorem State.beginTrace_capValid : (s.beginTrace).capValid = s.capValid := rfl
@[simp] theorem State.beginTrace_resMag : (s.beginTrace).resMag = s.resMag := rfl
@[simp] theorem State.beginTrace_resNeg : (s.beginTrace).resNeg = s.resNeg := rfl
@[simp] theorem State.beginTrace_rom : (s.beginTrace).rom = s.rom := rfl
@[simp] theorem State.beginTrace_trace : (s.beginTrace).trace = [] := rfl
@[simp] theorem State.beginTrace_pollMaxReads : (s.beginTrace).pollMaxReads = s.pollMaxReads := rfl
@[simp] theorem State.beginTrace_port : (s.beginTrace).port = s.port := rfl
@[simp] theorem State.beginTrace_resetReq : (s.beginTrace).resetReq = s.resetReq := rfl
@[simp] theorem State.beginTrace_answers : (s.beginTrace).answers = s.answers := rfl
@[simp] theorem State.beginTrace_draws : (s.beginTrace).draws = s.draws := rfl

/-! ### `State.takePort` -/

@[simp] theorem State.takePort_script : (s.takePort).script = s.script := rfl
@[simp] theorem State.takePort_step : (s.takePort).step = s.step := rfl
@[simp] theorem State.takePort_phase : (s.takePort).phase = s.phase := rfl
@[simp] theorem State.takePort_pollCnt : (s.takePort).pollCnt = s.pollCnt := rfl
@[simp] theorem State.takePort_status : (s.takePort).status = s.status := rfl
@[simp] theorem State.takePort_pay : (s.takePort).pay = s.pay := rfl
@[simp] theorem State.takePort_cap : (s.takePort).cap = s.cap := rfl
@[simp] theorem State.takePort_capValid : (s.takePort).capValid = s.capValid := rfl
@[simp] theorem State.takePort_resMag : (s.takePort).resMag = s.resMag := rfl
@[simp] theorem State.takePort_resNeg : (s.takePort).resNeg = s.resNeg := rfl
@[simp] theorem State.takePort_rom : (s.takePort).rom = s.rom := rfl
@[simp] theorem State.takePort_trace : (s.takePort).trace = s.trace := rfl
@[simp] theorem State.takePort_pollMaxReads : (s.takePort).pollMaxReads = s.pollMaxReads := rfl
@[simp] theorem State.takePort_port : (s.takePort).port = s.port.tail := rfl
@[simp] theorem State.takePort_resetReq : (s.takePort).resetReq = s.resetReq := rfl
@[simp] theorem State.takePort_answers : (s.takePort).answers = s.answers := rfl
@[simp] theorem State.takePort_draws : (s.takePort).draws = s.draws := rfl

end Sys2Proof.Machine
end

