-- ==== Sys2Proof/Laws/Ops.lean ====
section
/-! SUPPORT. Laws/Ops.lean: for each shared operation, once, everything it can do. -/

namespace Sys2Proof.Machine

/-! ### The Transport -/

/-- R52, R66: a read consumes one answer the environment may give, records its event, and does nothing else. -/
theorem State.txRead_eq_consume (s : State) : ∃ a, s.mayAnswer a ∧ s.txRead = (a, s.consume a) := by
  cases h : s.answers with
  | nil =>
    refine ⟨Config.freeAnswer s.draws, by simp [State.mayAnswer, h], ?_⟩
    simp [State.txRead, State.nextAnswer, State.consume, State.emit, h]
  | cons a rest =>
    refine ⟨a, by simp [State.mayAnswer, h], ?_⟩
    simp [State.txRead, State.nextAnswer, State.consume, State.emit, h]

/-- R66: a listed answer is the one a read gives. -/
theorem State.txRead_of_answers {s : State} {a : Answer} {rest : List Answer} (h : s.answers = a :: rest) :
    s.txRead = (a, s.consume a) := by
  simp [State.txRead, State.nextAnswer, State.consume, State.emit, h]

/-- The two clauses of a read together: after it, only the inputs and the trace differ. -/
theorem State.consume_fields (s : State) (a : Answer) :
    (s.consume a).script = s.script ∧ (s.consume a).step = s.step ∧ (s.consume a).phase = s.phase ∧
      (s.consume a).pollCnt = s.pollCnt ∧ (s.consume a).status = s.status ∧ (s.consume a).pay = s.pay ∧
      (s.consume a).cap = s.cap ∧ (s.consume a).capValid = s.capValid ∧ (s.consume a).resMag = s.resMag ∧
      (s.consume a).resNeg = s.resNeg ∧ (s.consume a).rom = s.rom ∧
      (s.consume a).pollMaxReads = s.pollMaxReads ∧ (s.consume a).port = s.port ∧
      (s.consume a).resetReq = s.resetReq ∧ (s.consume a).trace = s.trace ++ [answerEvent a] :=
  ⟨rfl, rfl, rfl, rfl, rfl, rfl, rfl, rfl, rfl, rfl, rfl, rfl, rfl, rfl, rfl⟩

/-! ### The poll counter -/

@[simp] theorem pollCntAfter_none (old n : Nat) : pollCntAfter none old n = old := rfl

@[simp] theorem pollCntAfter_some (b : PollBound) (old n : Nat) : pollCntAfter (some b) old n = n := rfl

@[simp] theorem pollBoundReached_none (cnt : Nat) : pollBoundReached none cnt = false := rfl

@[simp] theorem pollBoundReached_some (b : PollBound) (cnt : Nat) :
    pollBoundReached (some b) cnt = decide (b.n ≤ cnt + 1) := rfl

/-- R28: clearing the counter keeps it below the bound. -/
theorem pollCntFits_clear {bound : Option PollBound} {cnt : Nat} (h : pollCntFits bound cnt) :
    pollCntFits bound (pollCntAfter bound cnt 0) := by
  cases bound with
  | none => exact h
  | some b => exact b.pos

/-- R140, R144: a discarded read that does not reach the bound keeps the counter below it. -/
theorem pollCntFits_bump {bound : Option PollBound} {cnt : Nat} (h : pollCntFits bound cnt)
    (hb : pollBoundReached bound cnt = false) : pollCntFits bound (pollCntAfter bound cnt (cnt + 1)) := by
  cases bound with
  | none => exact h
  | some b =>
    simp only [pollBoundReached_some, decide_eq_false_iff_not] at hb
    simp only [pollCntAfter_some, pollCntFits]
    omega

/-! ### Control -/

/-- R146: `Advance()` before the last step. -/
theorem State.advance_of_ne {s : State} (h : s.step ≠ 10) :
    s.advance = { s with
      phase := entryPhase (s.rom.word s.script (s.step.val + 1)), step := s.step + 1 } := by
  simp [State.advance, h]

/-- R146: `Advance()` at the last step. -/
theorem State.advance_of_last {s : State} (h : s.step = 10) : s.advance = s.finish := by
  simp [State.advance, h]

/-- R147: `Finish()` of a script that is not the stop script. -/
theorem State.finish_of_ne_stop {s : State} (h : s.script ≠ .stop) :
    s.finish = { s with status := .ok, script := .idle, step := 0, phase := .w } := by
  have : s.deliver = s := by
    unfold State.deliver
    split
    · contradiction
    · rfl
  simp only [State.finish, this]
  rfl

/-- R147: `Finish()` of the stop script. -/
theorem State.finish_of_stop {s : State} (h : s.script = .stop) :
    s.finish = { s with
      resMag := (fieldDecode s.cap[0] s.cap[1] s.cap[2]).mag
      resNeg := (fieldDecode s.cap[0] s.cap[1] s.cap[2]).neg
      status := .ok, script := .idle, step := 0, phase := .w } := by
  have : s.deliver = s.setReading (fieldDecode s.cap[0] s.cap[1] s.cap[2]) := by
    unfold State.deliver
    split
    · rfl
    · contradiction
  simp only [State.finish, this]
  rfl

/-- What every `Advance()` leaves as it was. -/
theorem State.advance_keeps (s : State) :
    s.advance.pollCnt = s.pollCnt ∧ s.advance.pay = s.pay ∧ s.advance.cap = s.cap ∧
      s.advance.capValid = s.capValid ∧ s.advance.rom = s.rom ∧ s.advance.trace = s.trace ∧
      s.advance.pollMaxReads = s.pollMaxReads ∧ s.advance.port = s.port ∧
      s.advance.resetReq = s.resetReq ∧ s.advance.answers = s.answers ∧ s.advance.draws = s.draws := by
  by_cases h : s.step = 10
  · rw [State.advance_of_last h]
    by_cases hs : s.script = .stop
    · rw [State.finish_of_stop hs]
      exact ⟨rfl, rfl, rfl, rfl, rfl, rfl, rfl, rfl, rfl, rfl, rfl⟩
    · rw [State.finish_of_ne_stop hs]
      exact ⟨rfl, rfl, rfl, rfl, rfl, rfl, rfl, rfl, rfl, rfl, rfl⟩
  · rw [State.advance_of_ne h]
    exact ⟨rfl, rfl, rfl, rfl, rfl, rfl, rfl, rfl, rfl, rfl, rfl⟩

/-- R148: `Abort(i + 1)` writes the status and the sequencer registers, and nothing else. -/
theorem State.abort_eq (s : State) (i : Fin 3) :
    s.abort i = { s with status := .queryFail i, script := .idle, step := 0, phase := .w } := rfl

/-- R162, R163: what entering a script writes. -/
theorem State.enter_eq (s : State) (sc : Script) :
    s.enter sc = { s with script := sc, step := 1, phase := .w } := rfl

/-! ### Acceptance -/

/-- R164: a command presented while a script runs. -/
theorem State.acceptWhenIdle_of_busy {s : State} (h : s.busy = true) (f : State → State) :
    s.acceptWhenIdle f = s := by
  simp [State.acceptWhenIdle, h]

/-- R164: a command presented while the block is idle. -/
theorem State.acceptWhenIdle_of_idle {s : State} (h : s.busy = false) (f : State → State) :
    s.acceptWhenIdle f = f s.beginTrace := by
  simp [State.acceptWhenIdle, h]

/-- R26: `busy` is `script != IDLE`. -/
theorem State.busy_iff (s : State) : s.busy = true ↔ s.script ≠ .idle := by
  simp [State.busy]

/-- R26: the negation. -/
theorem State.not_busy_iff (s : State) : s.busy = false ↔ s.script = .idle := by
  simp [State.busy]

/-! ### The fetch -/

/-- What a step fetches: the reset, the ROM entry of the current step, or the head of the port. -/
theorem fetch_cases (s : State) :
    (s.resetReq = true ∧ fetch s = .settle s.softReset) ∨
      (s.resetReq = false ∧ s.busy = true ∧ fetch s = fetchStep s) ∨
      (s.resetReq = false ∧ s.busy = false ∧ fetch s = fetchCommand s) := by
  cases hr : s.resetReq <;> cases hb : s.busy <;> simp [fetch, hr, hb]

/-- R135: the fetch of a ROM entry that decodes. -/
theorem fetchStep_of_word {s : State} {w : StepWord} {i : Instr} (hw : s.rom.word s.script s.step.val = some w)
    (hi : decodeStepWord w = .instr i) : fetchStep s = .run i s := by
  simp [fetchStep, hw, hi]

/-- R83: the fetch of a ROM entry that is reserved. -/
theorem fetchStep_of_reserved {s : State} {w : StepWord} {why : Reject}
    (hw : s.rom.word s.script s.step.val = some w) (hi : decodeStepWord w = .reject why) :
    fetchStep s = .refuse (.reservedStepWord w) := by
  simp [fetchStep, hw, hi]

/-- R165: no word is presented. -/
theorem fetchCommand_of_nil {s : State} (h : s.port = []) : fetchCommand s = .settle s := by
  simp [fetchCommand, h]

/-- R164: a command word is presented. -/
theorem fetchCommand_of_command {s : State} {w : CmdWord} {rest : List CmdWord} {i : Instr}
    (h : s.port = w :: rest) (hi : decodeCmdWord w = .instr i) :
    fetchCommand s = .run i { s with port := rest } := by
  simp [fetchCommand, h, hi, State.takePort]

/-- R166: a reserved opcode is presented. -/
theorem fetchCommand_of_reserved {s : State} {w : CmdWord} {rest : List CmdWord} {why : Reject}
    (h : s.port = w :: rest) (hi : decodeCmdWord w = .reject why) :
    fetchCommand s = .settle { s with port := rest, status := .illegalCmd } := by
  simp [fetchCommand, h, hi, State.takePort, State.raiseIllegal, State.setStatus]

end Sys2Proof.Machine
end

