-- ==== Sys2Proof/Laws/PerInstr.lean ====
section
/-! SUPPORT. Laws/PerInstr.lean: the family `TableRow`: the word of an instruction has, in the bits that
spec/opcode_table.json (R76, R79) fixes for the instruction's row, the values the row fixes. -/

namespace Sys2Proof.Laws.TableRow

/-- Bits `lo` to `lo + n - 1` of the word of `i` are the number `v`. -/
def FixedAt (i : Instr) (lo n v : Nat) : Prop := (encodeInstr i).bits / 2 ^ lo % 2 ^ n = v

/-- R76, R79: the word of `i` has the fixed bits of the row of `i`. -/
def Statement (i : Instr) : Prop :=
  match i with
  | .ack _ => FixedAt i 0 8 0 ∧ FixedAt i 16 8 0
  | .ackp _ => FixedAt i 0 16 0 ∧ FixedAt i 18 6 8
  | .poll _ _ => FixedAt i 16 8 64
  | .write _ => FixedAt i 0 8 0 ∧ FixedAt i 16 8 96
  | .capture _ => FixedAt i 0 16 0 ∧ FixedAt i 18 6 32
  | .encode _ => FixedAt i 32 3 1
  | .decode _ _ _ _ => FixedAt i 32 3 2
  | .setCurrent _ => FixedAt i 32 3 3
  | .stopQuery _ => FixedAt i 32 3 4

/-- R79: bits 34:32 of a packed command word. -/
theorem packCmd_opcode (op : BitVec 3) (arg : BitVec 32) :
    (packCmd op arg).toNat / 2 ^ 32 % 2 ^ 3 = op.toNat := by
  have := op.isLt
  have := arg.isLt
  rw [packCmd_toNat]
  omega

theorem ack (b : Byte) : Statement (.ack b) := by
  have := b.isLt
  simp only [Statement, FixedAt, encodeInstr, Encoded.bits, packStep_toNat, BitVec.toNat_ofNat]
  omega

theorem ackp (i : Fin 4) : Statement (.ackp i) := by
  simp only [Statement, FixedAt, encodeInstr, Encoded.bits, packStep_toNat, BitVec.toNat_ofNat]
  omega

theorem poll (b e : Byte) : Statement (.poll b e) := by
  have := b.isLt
  have := e.isLt
  simp only [Statement, FixedAt, encodeInstr, Encoded.bits, packStep_toNat, BitVec.toNat_ofNat]
  omega

theorem write (b : Byte) : Statement (.write b) := by
  have := b.isLt
  simp only [Statement, FixedAt, encodeInstr, Encoded.bits, packStep_toNat, BitVec.toNat_ofNat]
  omega

theorem capture (i : Fin 3) : Statement (.capture i) := by
  simp only [Statement, FixedAt, encodeInstr, Encoded.bits, packStep_toNat, BitVec.toNat_ofNat]
  omega

theorem encode (arg : BitVec 32) : Statement (.encode arg) :=
  packCmd_opcode 0b001#3 arg

theorem decode (ign b1 b2 b3 : Byte) : Statement (.decode ign b1 b2 b3) :=
  packCmd_opcode 0b010#3 (ign ++ b1 ++ b2 ++ b3)

theorem setCurrent (arg : BitVec 32) : Statement (.setCurrent arg) :=
  packCmd_opcode 0b011#3 arg

theorem stopQuery (ign : BitVec 32) : Statement (.stopQuery ign) :=
  packCmd_opcode 0b100#3 ign

end Sys2Proof.Laws.TableRow
end

