-- ==== Sys2Proof/Machine/Text.lean ====
section
/-! DEFINITION. Machine/Text.lean: the textual syntax of steps and commands (R86), for the spec's examples only. -/

namespace Sys2Proof.Machine

/-- One hexadecimal digit. -/
def hexDigit (n : Nat) : String :=
  ["0", "1", "2", "3", "4", "5", "6", "7", "8", "9", "A", "B", "C", "D", "E", "F"].getD n "?"

/-- R86: a byte in hexadecimal with its `0x`. -/
def byteText (b : Byte) : String := "0x" ++ hexDigit (b.toNat / 16) ++ hexDigit (b.toNat % 16)

/-- R86: a signed decimal number of milliamps. -/
def milliampText (arg : BitVec 32) : String := toString arg.toInt

/-- R86: the syntax of an instruction; ignored argument bits have none. -/
def instrText : Instr → String
  | .ack b => "ACK " ++ byteText b
  | .ackp i => "ACKP " ++ toString i.val
  | .poll b e => "POLL " ++ byteText b ++ " " ++ byteText e
  | .write b => "WRITE " ++ byteText b
  | .capture i => "CAPTURE " ++ toString i.val
  | .encode arg => "ENCODE " ++ milliampText arg
  | .decode _ b1 b2 b3 => "DECODE " ++ byteText b1 ++ " " ++ byteText b2 ++ " " ++ byteText b3
  | .setCurrent arg => "SET_CURRENT " ++ milliampText arg
  | .stopQuery _ => "STOP_QUERY"

end Sys2Proof.Machine
end

