-- ==== Sys2Proof/Tests/Slice0.lean ====
section
/-! SUPPORT. Tests/Slice0.lean: small tests, whose expected results stand in the spec (95_test_vectors.md unless the
comment names another file), and for every obligation with hypotheses a witness that meets them together. -/

namespace Sys2Proof.Tests

open Sys2Proof Sys2Proof.Machine

/-! ### States to test on -/

/-- What a test reads from an outcome that is a next state. -/
def after {α : Type} (o : Host.Outcome State Fault Refusal) (f : State → α) : Option α :=
  match o with
  | .next t => some (f t)
  | .fault _ => none
  | .refused _ => none

/-- An idle block with `POLL_MAX_READS = none` and concrete data registers. -/
def idleState : State where
  script := .idle
  step := 0
  phase := .w
  pollCnt := 0
  status := .ok
  pay := #v[0x01, 0x44, 0x00, 0x01]
  cap := #v[0x00, 0xDE, 0x00]
  capValid := #v[true, true, true]
  resMag := 222
  resNeg := false
  rom := Rom.contents
  trace := []
  pollMaxReads := none
  port := []
  resetReq := false
  answers := []
  draws := 0

/-- The start script at a step and a phase, with the answers to come. -/
def startAt (k : Fin 11) (ph : Phase) (as : List Answer) : State :=
  { idleState with script := .start, step := k, phase := ph, answers := as }

/-- The stop script at a step and a phase, with the valid flags and the answers to come. -/
def stopAt (k : Fin 11) (ph : Phase) (valid : Vector Bool 3) (as : List Answer) : State :=
  { idleState with script := .stop, step := k, phase := ph, capValid := valid, answers := as }

/-- A state with the bound `n` of its POLLs and a counter value. -/
def bounded (n : PollBound) (cnt : Nat) (s : State) : State := { s with pollMaxReads := some n, pollCnt := cnt }

/-- A bound of 3 reads (K11, P6). -/
def three : PollBound := ⟨3, by decide⟩

/-- A bound of 1 read (K12). -/
def one : PollBound := ⟨1, by decide⟩

/-! ### Well-formedness: one ill-formed word for each check (2.3, the reserved words) -/

theorem test_wf_kind : StepWord.wellFormed 0xA00000 = false ∧ StepWord.kindOk 0xA00000 = false := by decide

theorem test_wf_zero : StepWord.wellFormed 0x040000 = false ∧ StepWord.zeroOk 0x040000 = false := by decide

theorem test_wf_idx : StepWord.wellFormed 0x830000 = false ∧ StepWord.idxOk 0x830000 = false ∧
    StepWord.idxOk 0x010000 = false := by decide

theorem test_wf_wbyte : StepWord.wellFormed 0x206400 = false ∧ StepWord.wbyteOk 0x206400 = false := by decide

theorem test_wf_expect : StepWord.wellFormed 0x006412 = false ∧ StepWord.expectOk 0x006412 = false := by decide

theorem test_wf_op : CmdWord.wellFormed 0x000000000 = false ∧ CmdWord.wellFormed 0x500000000 = false ∧
    CmdWord.wellFormed 0x7FFFFFFFF = false := by decide

theorem test_wf_accepts : StepWord.wellFormed 0x408212 = true ∧ StepWord.wellFormed 0x230000 = true ∧
    CmdWord.wellFormed 0x2AB00DE01 = true ∧ CmdWord.wellFormed 0x4DEADBEEF = true := by decide

/-! ### Decoding: a word of every instruction, bit by bit from R76 and R79 -/

theorem test_decode_ack : decodeTableWord 24 0b000000000110010000000000 = some (.ack 0x64) := by decide

theorem test_decode_ackp : decodeTableWord 24 0b001000100000000000000000 = some (.ackp 2) := by decide

theorem test_decode_poll : decodeTableWord 24 0b010000000001111000010010 = some (.poll 0x1E 0x12) := by decide

theorem test_decode_write : decodeTableWord 24 0b011000000000101000000000 = some (.write 0x0A) := by decide

theorem test_decode_capture : decodeTableWord 24 0b100000010000000000000000 = some (.capture 1) := by decide

/-- M1. -/
theorem test_decode_encode : decodeTableWord 40 0x1000003E8 = some (.encode 1000) := by decide

/-- M5. -/
theorem test_decode_decode : decodeTableWord 40 0x2AB00DE01 = some (.decode 0xAB 0x00 0xDE 0x01) := by decide

/-- P7. -/
theorem test_decode_setCurrent : decodeTableWord 40 0x3FFFFF830 = some (.setCurrent (-2000)) := by decide

/-- M9. -/
theorem test_decode_stopQuery : decodeTableWord 40 0x4DEADBEEF = some (.stopQuery 0xDEADBEEF) := by decide

/-- 2.3: the reserved step words, each refused under its name. -/
theorem test_decode_rejects : decodeStepWord 0xC00000 = .reject .reservedKind ∧
    decodeStepWord 0x040000 = .reject .zeroBits ∧ decodeStepWord 0x830000 = .reject .badIdx ∧
    decodeStepWord 0x206400 = .reject .badWbyte ∧ decodeStepWord 0x006412 = .reject .badExpect ∧
    decodeCmdWord 0x600000000 = .reject .reservedOpcode := by decide

/-- R86: the textual syntax. -/
theorem test_text : instrText (.poll 0x1E 0x12) = "POLL 0x1E 0x12" ∧ instrText (.ackp 2) = "ACKP 2" ∧
    instrText (.setCurrent (-2000)) = "SET_CURRENT -2000" := by decide

/-! ### The step kinds -/

/-- K1, K2: the answer of an ACK is never looked at. -/
theorem test_ack_read : after (exec (.ack 0x64) (startAt 1 .r [.byte 0x12])) (fun t => (t.step, t.phase)) =
      some (2, .w) ∧
    after (exec (.ack 0x64) (startAt 1 .r [.timeout])) (fun t => (t.step, t.phase, t.trace)) =
      some (2, .w, [.timeout]) := by decide

/-- K5: the payload byte read is that of the index. -/
theorem test_ackp_write : after (exec (.ackp 1) (startAt 7 .w [])) (fun t => (t.phase, t.trace)) =
    some (.r, [.wrote 0x44]) := by decide

/-- K9: another byte than the expected one is discarded and the step stays. -/
theorem test_poll_read : after (exec (.poll 0x1E 0x12) (startAt 3 .r [.byte 0x64, .byte 0x12]))
    (fun t => (t.step, t.phase, t.answers)) = some (3, .r, [.byte 0x12]) := by decide

/-- K11: the third read ends a POLL with the bound 3; here it is step 10, so the script ends. -/
theorem test_poll_bound : after (exec (.poll 0x82 0x12)
      (bounded three 2 (stopAt 10 .r #v[true, true, true] [.byte 0x02]))) (fun t => (t.script, t.status, t.resMag)) =
      some (.idle, .ok, 222) ∧
    after (exec (.poll 0x82 0x12) (bounded three 1 (stopAt 10 .r #v[true, true, true] [.byte 0x01])))
      (fun t => (t.script, t.step, t.pollCnt)) = some (.stop, 10, 2) := by decide

/-- K14, K15: the step after a WRITE is entered at its own entry phase. -/
theorem test_write : after (exec (.write 0x0A) (stopAt 3 .w #v[false, false, false] []))
      (fun t => (t.step, t.phase, t.trace)) = some (4, .r, [.wrote 0x0A]) ∧
    after (exec (.write 0x00) (stopAt 8 .w #v[true, true, true] [])) (fun t => (t.step, t.phase)) =
      some (9, .w) := by decide

/-- K16. -/
theorem test_capture_read : after (exec (.capture 1) (stopAt 5 .r #v[true, false, false] [.byte 0x77]))
    (fun t => (t.cap, t.capValid, t.phase)) = some (#v[0x00, 0x77, 0x00], #v[true, true, false], .e) := by decide

/-- K18. -/
theorem test_capture_timeout : after (exec (.capture 2) (stopAt 6 .r #v[true, true, false] [.timeout]))
    (fun t => (t.status.code, t.script, t.step, t.phase, t.capValid)) =
      some (3, .idle, 0, .w, #v[true, true, false]) := by decide

/-! ### The commands -/

/-- M2, M3. -/
theorem test_encode : after (exec (.encode (-1000)) idleState) (fun t => (t.pay, t.status)) =
      some (#v[0x01, 0x44, 0x00, 0x00], .ok) ∧
    after (exec (.encode 202207) idleState) (fun t => (t.pay, t.status)) =
      some (#v[0x01, 0x44, 0x00, 0x01], .encodeRange) := by decide

/-- E3, E8, E9, E25, E30. -/
theorem test_encode_corners : encodeCurrent (-1) = .ok #v[0x00, 0x00, 0x00, 0x00] ∧
    encodeCurrent 788 = .ok #v[0x00, 0xFF, 0x00, 0x01] ∧ encodeCurrent 789 = .ok #v[0x01, 0x00, 0x00, 0x01] ∧
    encodeCurrent 202206 = .ok #v[0xFF, 0xFF, 0x00, 0x01] ∧ encodeCurrent (-2147483648) = .range := by decide

/-- M4. -/
theorem test_decode : after (exec (.decode 0x00 0x00 0xDE 0x01) idleState)
    (fun t => (t.resMag, t.resNeg, t.status, fieldDmt t.reading, t.cap)) =
      some (222, true, .ok, -222, #v[0x00, 0xDE, 0x00]) := by decide

/-- F2, F6, F11, F13. -/
theorem test_decode_corners : fieldDecode 0x00 0x00 0x01 = ⟨0, true⟩ ∧ fieldDecode 0x00 0xDE 0x81 = ⟨222, false⟩ ∧
    fieldDmt (fieldDecode 0x80 0x00 0x00) = 32768 ∧ fieldDmtBits (fieldDecode 0xFF 0xFF 0x01) = 0x10001 := by decide

/-- M6, M7. -/
theorem test_setCurrent : after (exec (.setCurrent 1000) idleState)
      (fun t => (t.pay, t.script, t.step, t.phase, t.busy)) =
      some (#v[0x01, 0x44, 0x00, 0x01], .start, 1, .w, true) ∧
    after (exec (.setCurrent 202207) idleState) (fun t => (t.script, t.status)) = some (.idle, .encodeRange) := by
  decide

/-- M8. -/
theorem test_stopQuery : after (exec (.stopQuery 0xDEADBEEF) idleState)
    (fun t => (t.capValid, t.script, t.step, t.phase)) = some (#v[false, false, false], .stop, 1, .w) := by decide

/-- M13: a command presented while a script runs. -/
theorem test_busy : after (exec (.stopQuery 0) (startAt 5 .r [])) (fun t => t) = some (startAt 5 .r []) := by decide

/-- M10: a reserved opcode at the port of an idle block. -/
theorem test_reserved_opcode : after (step { idleState with port := [0x500000000] }) (fun t => t) =
    some { idleState with status := .illegalCmd } := by decide

/-! ### The validator -/

/-- V6, V8, V17. -/
theorem test_validator_start : validate ⟨.start, #v[0x01, 0x44, 0x00, 0x01], none⟩
      [.wrote 0x64, .read 0x12, .wrote 0x65] = .violation 3 (.write 0x64) ∧
    validate ⟨.start, #v[0x01, 0x44, 0x00, 0x01], none⟩ [.wrote 0x64, .wrote 0x64] = .violation 2 .read ∧
    validate ⟨.stop, #v[0, 0, 0, 0], none⟩ [] = .incomplete 1 .w := by decide

/-- V19, V10, V9, V20. -/
theorem test_validator_stop : validate ⟨.stop, #v[0, 0, 0, 0], none⟩
      [.wrote 0x64, .timeout, .wrote 0x2B, .timeout, .wrote 0x0A, .timeout] = .completeFail 0 ∧
    validate ⟨.stop, #v[0, 0, 0, 0], none⟩
      [.wrote 0x64, .read 0x12, .wrote 0x2B, .read 0x12, .wrote 0x0A, .read 0x00] = .incomplete 4 .e ∧
    validate ⟨.stop, #v[0, 0, 0, 0], none⟩
      [.wrote 0x64, .read 0x12, .wrote 0x2B, .read 0x12, .wrote 0x0A, .read 0x00, .wrote 0x01] =
      .violation 7 (.write 0x00) ∧
    validate ⟨.stop, #v[0, 0, 0, 0], none⟩
      [.wrote 0x64, .read 0x12, .wrote 0x2B, .read 0x12, .wrote 0x0A, .wrote 0x00] = .violation 6 .read := by
  decide

/-! ### Placing a word -/

/-- Log entry 7: the very next step runs the placed word, from the state after reset. -/
theorem test_placed_word :
    step (State.reset.withFetchWord 24 0x006400) = exec (.ack 0x64) (State.reset.withFetchWord 24 0x006400) ∧
    step (State.reset.withFetchWord 24 0x800000) = exec (.capture 0) (State.reset.withFetchWord 24 0x800000) ∧
    step (State.reset.withFetchWord 40 0x400000000) = exec (.stopQuery 0) State.reset := ⟨rfl, rfl, rfl⟩

/-! ### Legal and conforming states -/

/-- The answers of P2 after the first `k`. -/
def p2Answers (k : Nat) : List Answer :=
  ([.byte 0x12, .byte 0x12, .byte 0x00, .byte 0xDE, .byte 0x00, .byte 0x12, .byte 0x12, .byte 0x12] :
    List Answer).drop k

/-- The first `k` events of P2. -/
def p2Trace (k : Nat) : List Event :=
  ([.wrote 0x64, .read 0x12, .wrote 0x2B, .read 0x12, .wrote 0x0A, .read 0x00, .wrote 0x00, .read 0xDE,
    .wrote 0xDE, .read 0x00, .wrote 0x00, .wrote 0x4E, .read 0x12, .wrote 0x00, .wrote 0x64, .read 0x12,
    .wrote 0x82, .read 0x12] : List Event).take k

/-- The first `k` events of a start script on a dead link (V14). -/
def v14Trace (k : Nat) : List Event :=
  ([.wrote 0x64, .timeout, .wrote 0x64, .timeout, .wrote 0x1E, .timeout, .wrote 0x64, .timeout, .wrote 0x2C,
    .timeout, .wrote 0x01, .timeout, .wrote 0x44, .timeout, .wrote 0x00, .timeout, .wrote 0x01, .timeout,
    .wrote 0x00, .timeout] : List Event).take k

/-- P2 before its last micro-step. -/
def p2Last : State := { stopAt 10 .r #v[true, true, true] (p2Answers 7) with trace := p2Trace 17 }

/-- P2 before the read of CAPTURE 0. -/
def p2Capture : State := { stopAt 4 .r #v[false, false, false] (p2Answers 2) with trace := p2Trace 5 }

/-- V19 before its last micro-step: CAPTURE 0 is about to time out. -/
def v19Last : State := { stopAt 4 .r #v[false, false, false] [.timeout] with trace := p2Trace 5 }

/-- P3 before its last micro-step: CAPTURE 2 is about to time out. -/
def p3Last : State := { stopAt 6 .r #v[true, true, false] [.timeout] with trace := p2Trace 9 }

/-- V14 before its last micro-step. -/
def v14Last : State := { startAt 10 .r [.timeout] with trace := v14Trace 19 }

/-- A start script in its first POLL, which has read one other byte. -/
def pollState : State := { startAt 3 .r [.byte 0x00, .byte 0x12] with trace := v14Trace 5 }

theorem legal_idle : idleState.Legal :=
  ⟨rfl, by decide, fun _ => by decide, fun h => absurd rfl h, rfl, (fun h => by cases h), (fun h => by cases h)⟩

theorem legal_start (k : Fin 11) (ph : Phase) (as : List Answer) (tr : List Event)
    (h : ∃ i, (startAt k ph []).currentStep = some i ∧ phaseFits i ph = true) :
    ({ startAt k ph as with trace := tr } : State).Legal :=
  ⟨rfl, by simp [startAt, idleState], (fun h => by cases h), fun _ => h, rfl, (fun h => by cases h),
    fun _ => ⟨rfl, .inr rfl⟩⟩

theorem legal_stop (k : Fin 11) (ph : Phase) (valid : Vector Bool 3) (as : List Answer) (tr : List Event)
    (h : ∃ i, (stopAt k ph valid []).currentStep = some i ∧ phaseFits i ph = true)
    (hv : ∀ i : Fin 3, valid[i] = (stopAt k ph valid []).hasCaptured i) :
    ({ stopAt k ph valid as with trace := tr } : State).Legal :=
  ⟨rfl, by simp [stopAt, idleState], (fun h => by cases h), fun _ => h, rfl, fun _ => hv, (fun h => by cases h)⟩

theorem legal_p2Last : p2Last.Legal := legal_stop _ _ _ _ _ ⟨.poll 0x82 0x12, by decide⟩ (by decide)

theorem legal_p2Capture : p2Capture.Legal := legal_stop _ _ _ _ _ ⟨.capture 0, by decide⟩ (by decide)

theorem legal_v19Last : v19Last.Legal := legal_stop _ _ _ _ _ ⟨.capture 0, by decide⟩ (by decide)

theorem legal_p3Last : p3Last.Legal := legal_stop _ _ _ _ _ ⟨.capture 2, by decide⟩ (by decide)

theorem legal_v14Last : v14Last.Legal := legal_start _ _ _ _ ⟨.poll 0x00 0x12, by decide⟩

theorem legal_pollState : pollState.Legal := legal_start _ _ _ _ ⟨.poll 0x1E 0x12, by decide⟩

theorem legal_startFirst : (startAt 1 .w []).Legal := legal_start 1 .w [] [] ⟨.ack 0x64, by decide⟩

/-- A bounded block in the middle of its last POLL. -/
theorem legal_bounded : (bounded three 2 pollState).Legal :=
  ⟨rfl, by decide, (fun h => by cases h), fun _ => ⟨.poll 0x1E 0x12, by decide⟩, (by decide : 2 < 3), (fun h => by cases h),
    fun _ => ⟨rfl, .inr rfl⟩⟩

theorem conforms_p2Last : p2Last.TraceConforms := fun _ =>
  ⟨⟨10, .r, 0, #v[0x00, 0xDE, 0x00], 3⟩, by decide, rfl, rfl, fun _ => rfl, fun _ => rfl, fun _ _ _ => rfl⟩

theorem conforms_p2Capture : p2Capture.TraceConforms := fun _ =>
  ⟨⟨4, .r, 0, #v[0x00, 0x00, 0x00], 0⟩, by decide, rfl, rfl, fun _ => rfl, fun _ => rfl, fun _ => by decide⟩

theorem conforms_v19Last : v19Last.TraceConforms := fun _ =>
  ⟨⟨4, .r, 0, #v[0x00, 0x00, 0x00], 0⟩, by decide, rfl, rfl, fun _ => rfl, fun _ => rfl, fun _ => by decide⟩

theorem conforms_p3Last : p3Last.TraceConforms := fun _ =>
  ⟨⟨6, .r, 0, #v[0x00, 0xDE, 0x00], 2⟩, by decide, rfl, rfl, fun _ => rfl, fun _ => rfl, fun _ => by decide⟩

theorem conforms_v14Last : v14Last.TraceConforms := fun _ =>
  ⟨⟨10, .r, 0, #v[0x00, 0x00, 0x00], 0⟩, by decide, rfl, rfl, fun _ => rfl, fun _ => rfl, (fun h => by cases h)⟩

/-! ### Witnesses: reset, words and fetch -/

theorem witness_ResetRegisterValues : decodeCmdWord 0x400000000 = .instr (.stopQuery 0) := by decide

theorem witness_ResetTakenInEveryState :
    ({ p2Capture with resetReq := true } : State).resetReq = true := rfl

theorem witness_EncodeOfDecodeIsTheWord : decodeWord (.step 0x820000) = .instr (.capture 2) ∧
    decodeWord (.command 0x4FFFFFFFF) = .instr (.stopQuery 0xFFFFFFFF) := by decide

/-- The start script with a reserved word at step 10. -/
def reservedState : State := { startAt 10 .w [] with rom := Rom.contents.place .start 10 0x830000 }

theorem witness_ReservedWordsAreRefused : Encoded.wellFormed (.step 0x830000) = false ∧
    reservedState.resetReq = false ∧ reservedState.busy = true ∧
    reservedState.rom.word reservedState.script reservedState.step.val = some 0x830000 ∧
    StepWord.wellFormed 0x830000 = false := by decide

theorem witness_StepRunsTheFetchedStep : p2Last.resetReq = false ∧ p2Last.busy = true ∧
    p2Last.rom.word p2Last.script p2Last.step.val = some 0x408212 ∧
    decodeStepWord 0x408212 = .instr (.poll 0x82 0x12) := by decide

/-- An idle block with two command words at its port. -/
def portState (w : CmdWord) : State := { idleState with port := [w, 0x1000003E8] }

theorem witness_StepRunsThePresentedCommand : (portState 0x3000003E8).resetReq = false ∧
    (portState 0x3000003E8).busy = false ∧ (portState 0x3000003E8).port = 0x3000003E8 :: [0x1000003E8] ∧
    decodeCmdWord 0x3000003E8 = .instr (.setCurrent 1000) := by decide

theorem witness_IdleBlockTouchesNoTransport :
    (idleState.resetReq = false ∧ idleState.busy = false ∧ idleState.port = []) ∧
      ∃ t, (portState 0x400000000).resetReq = false ∧ (portState 0x400000000).busy = false ∧
        step (portState 0x400000000) = .next t := ⟨by decide, _, rfl, rfl, rfl⟩

theorem witness_ReservedOpcodeOnlySetsStatus :
    (∀ w, (portState w).resetReq = false ∧ (portState w).busy = false ∧ (portState w).port = w :: [0x1000003E8]) ∧
      cmdOp 0x000000000 = 0b000 ∧ cmdOp 0x500000000 = 0b101 ∧ cmdOp 0x600000000 = 0b110 ∧
      cmdOp 0x7FFFFFFFF = 0b111 :=
  ⟨fun _ => ⟨rfl, rfl, rfl⟩, by decide⟩

theorem witness_CommandsAcceptedOnlyWhenIdle :
    ((Instr.stopQuery 0).isStep = false ∧ pollState.busy = true) ∧
      ((Instr.setCurrent 202207).isStep = false ∧ idleState.busy = false) ∧
      ∃ t, pollState.resetReq = false ∧ pollState.busy = true ∧ step pollState = .next t :=
  ⟨by decide, by decide, _, rfl, rfl, rfl⟩

/-! ### Witnesses: the encoder -/

theorem witness_CountsIsTheNearestInteger : (2147483648 : Nat) ≤ 2147483648 ∧ counts 2147483648 = 696004957 :=
  ⟨Nat.le_refl _, by simp [counts]⟩

theorem witness_EncodeRefusesExactlyOutOfRange : encodeCurrent 202207 = .range ∧ encodeCurrent (-202207) = .range ∧
    encodeCurrent 202206 ≠ .range ∧ encodeCurrent (-202206) ≠ .range := by decide

theorem witness_EncodePayloadBytes :
    (-202206 ≤ (202206 : BitVec 32).toInt ∧ (202206 : BitVec 32).toInt ≤ 202206) ∧
      -202206 ≤ (-202206 : BitVec 32).toInt ∧ (-202206 : BitVec 32).toInt ≤ 202206 := by decide

theorem witness_EncodeSignLaw : encodeCurrent 0 = .ok #v[0x00, 0x00, 0x00, 0x01] ∧
    encodeCurrent (-1) = .ok #v[0x00, 0x00, 0x00, 0x00] := by decide

theorem witness_EncodeMonotoneAndSymmetric : (788 : Nat) ≤ 789 ∧ 0 < (1 : BitVec 32).toInt ∧
    encodeCurrent 1 = .ok #v[0x00, 0x00, 0x00, 0x01] ∧ 0 < (202206 : BitVec 32).toInt ∧
    encodeCurrent 202206 = .ok #v[0xFF, 0xFF, 0x00, 0x01] := by decide

/-! ### Witnesses: the commands -/

theorem witness_EncodeCommandResult : idleState.busy = false ∧
    (-202206 ≤ (202206 : BitVec 32).toInt ∧ (202206 : BitVec 32).toInt ≤ 202206) ∧
    202206 < (202207 : BitVec 32).toInt := by decide

theorem witness_DecodeCommandResult : idleState.busy = false := rfl

theorem witness_SetCurrentAcceptance : idleState.busy = false ∧
    (-202206 ≤ (-202206 : BitVec 32).toInt ∧ (-202206 : BitVec 32).toInt ≤ 202206) ∧
    (-202207 : BitVec 32).toInt < -202206 := by decide

theorem witness_StopQueryAcceptance : idleState.busy = false := rfl

theorem witness_IgnoredArgumentBitsMakeNoDifference : idleState.resetReq = false ∧ idleState.busy = false ∧
    (cmdOp 0x400000000 = cmdOp 0x4FFFFFFFF ∧ cmdOp 0x400000000 = 0b100) ∧
    (cmdOp 0x20000DE01 = cmdOp 0x2AB00DE01 ∧ cmdOp 0x20000DE01 = 0b010 ∧
      (0x20000DE01 : CmdWord).extractLsb' 0 24 = (0x2AB00DE01 : CmdWord).extractLsb' 0 24) := by decide

theorem witness_CommandFrame : (Instr.encode 1000).isStep = false ∧
    (∃ t, exec (.encode 1000) idleState = .next t) ∧ (∃ t, exec (.decode 0 1 2 3) idleState = .next t) ∧
    (∃ t, exec (.setCurrent 1000) idleState = .next t) ∧ ∃ t, exec (.stopQuery 0) pollState = .next t :=
  ⟨rfl, ⟨_, rfl⟩, ⟨_, rfl⟩, ⟨_, rfl⟩, _, rfl⟩

/-! ### Witnesses: the step kinds -/

theorem witness_AckResult : (startAt 1 .w []).busy = true ∧ (startAt 1 .w []).phase = .w ∧
    (startAt 1 .r []).busy = true ∧ (startAt 1 .r []).phase = .r := by decide

theorem witness_AckpResult : (startAt 9 .w []).busy = true ∧ (startAt 9 .w []).phase = .w ∧
    (startAt 9 .r []).busy = true ∧ (startAt 9 .r []).phase = .r := by decide

theorem witness_PollWriteResult : (startAt 3 .w []).busy = true ∧ (startAt 3 .w []).phase = .w ∧
    (bounded three 2 (startAt 3 .w [])).pollMaxReads ≠ none := by decide

/-- Each way a read of a POLL can go: a timeout, the expected byte, the bound, one read before the bound, and no
bound. -/
theorem witness_PollReadResult : pollState.busy = true ∧ pollState.phase = .r ∧
    (startAt 3 .r [.timeout]).mayAnswer .timeout ∧ (startAt 3 .r [.byte 0x12]).mayAnswer (.byte 0x12) ∧
    ((bounded three 2 pollState).pollMaxReads = some three ∧ three.n ≤ (bounded three 2 pollState).pollCnt + 1) ∧
    ¬three.n ≤ (bounded three 1 pollState).pollCnt + 1 ∧ one.n ≤ (bounded one 0 pollState).pollCnt + 1 ∧
    pollState.mayAnswer (.byte 0x00) ∧ pollState.pollMaxReads = none := by
  refine ⟨rfl, rfl, ?_, ?_, by decide, by decide, by decide, ?_, rfl⟩ <;>
    (intro x hx; simpa [startAt, pollState] using hx)

theorem witness_WriteResult : (stopAt 8 .w #v[true, true, true] []).busy = true ∧
    (stopAt 8 .w #v[true, true, true] []).phase = .w := by decide

theorem witness_CaptureReadResult : p2Capture.busy = true ∧ p2Capture.phase = .r ∧
    p2Capture.mayAnswer (.byte 0x00) ∧ v19Last.phase = .r ∧ v19Last.mayAnswer .timeout := by
  refine ⟨rfl, rfl, ?_, rfl, ?_⟩ <;>
    (intro x hx; simpa [p2Capture, p2Answers, v19Last, stopAt] using hx)

theorem witness_CaptureEchoResult : (stopAt 6 .e #v[true, true, true] []).busy = true ∧
    (stopAt 6 .e #v[true, true, true] []).phase = .e := by decide

/-- Into a CAPTURE, into the last step, and at the last step. -/
theorem witness_AdvanceEntersTheNextStep :
    ((stopAt 3 .w #v[false, false, false] []).step.val < 10 ∧ Rom.contents.word .stop 4 = some 0x800000 ∧
        decodeStepWord 0x800000 = .instr (.capture 0)) ∧
      ((startAt 9 .r []).step.val < 10 ∧ Rom.contents.word .start 10 = some 0x400012 ∧
        decodeStepWord 0x400012 = .instr (.poll 0x00 0x12)) ∧ (startAt 10 .r []).step.val = 10 := by decide

theorem witness_FinishResult : v14Last.script = .start ∧ p2Last.script = .stop := ⟨rfl, rfl⟩

theorem witness_StepKindsStopWithoutAMicroStep : (Instr.write 0x0A).isStep = true ∧ idleState.busy = false ∧
    pollState.busy = true ∧ phaseFits (.write 0x0A) pollState.phase = false := by decide

theorem witness_StepKindFrame :
    (∃ t, (Instr.poll 0x82 0x12).isStep = true ∧ exec (.poll 0x82 0x12) p2Last = .next t ∧ t.script = .idle) ∧
    (∃ t, (Instr.capture 0).isStep = true ∧ exec (.capture 0) p2Capture = .next t ∧ t.script ≠ .idle) ∧
    ∃ t, exec (.ack 0x64) (startAt 1 .w []) = .next t ∧ (startAt 1 .w []).phase ≠ .r :=
  ⟨⟨_, rfl, rfl, rfl⟩, ⟨_, rfl, rfl, by decide⟩, _, rfl, by decide⟩

/-! ### Witnesses: the running machine -/

theorem witness_StepKeepsLegal : ∃ t, p2Last.Legal ∧ step p2Last = .next t := ⟨_, legal_p2Last, rfl⟩

theorem witness_LegalStatesAlwaysStep : idleState.Legal ∧ (bounded three 2 pollState).Legal :=
  ⟨legal_idle, legal_bounded⟩

theorem witness_OnePrimitivePerMicroStep : (p2Capture.Legal ∧ p2Capture.resetReq = false ∧ p2Capture.busy = true) ∧
    (startAt 1 .w []).Legal ∧ (startAt 1 .w []).resetReq = false ∧ (startAt 1 .w []).busy = true :=
  ⟨⟨legal_p2Capture, rfl, rfl⟩, legal_startFirst, rfl, rfl⟩

theorem witness_RomIsNeverWritten : ∃ t, step p2Last = .next t := ⟨_, rfl⟩

theorem witness_PayloadWrittenOnlyByEncoding : ∃ t, (portState 0x1FFFFFC18).resetReq = false ∧
    step (portState 0x1FFFFFC18) = .next t ∧ t.pay ≠ (portState 0x1FFFFFC18).pay := ⟨_, rfl, rfl, by decide⟩

theorem witness_ResultsHoldWhileRunning : ∃ t, p2Capture.Legal ∧ p2Capture.resetReq = false ∧
    p2Capture.busy = true ∧ step p2Capture = .next t ∧ t.busy = true := ⟨_, legal_p2Capture, rfl, rfl, rfl, rfl⟩

/-- Both ends: at step 10, and at the timeouts of the first and the last CAPTURE. -/
theorem witness_ScriptEndsAtStepTenOrAtACaptureTimeout :
    (∃ t, p2Last.Legal ∧ p2Last.resetReq = false ∧ p2Last.busy = true ∧ step p2Last = .next t ∧ t.busy = false) ∧
    (∃ t, v19Last.Legal ∧ v19Last.resetReq = false ∧ v19Last.busy = true ∧ step v19Last = .next t ∧
      t.busy = false) ∧
    ∃ t, p3Last.Legal ∧ p3Last.resetReq = false ∧ p3Last.busy = true ∧ step p3Last = .next t ∧ t.busy = false :=
  ⟨⟨_, legal_p2Last, rfl, rfl, rfl, rfl⟩, ⟨_, legal_v19Last, rfl, rfl, rfl, rfl⟩, _, legal_p3Last, rfl, rfl, rfl,
    rfl⟩

theorem witness_StartScriptCannotFail : v14Last.Legal ∧ v14Last.resetReq = false ∧ v14Last.script = .start :=
  ⟨legal_v14Last, rfl, rfl⟩

/-- K13, two reads long. -/
theorem witness_UnboundedPollNeverMovesOn :
    (startAt 10 .r [.byte 0x00, .byte 0x00, .timeout]).resetReq = false ∧
      (startAt 10 .r [.byte 0x00, .byte 0x00, .timeout]).currentStep = some (.poll 0x00 0x12) ∧
      (startAt 10 .r [.byte 0x00, .byte 0x00, .timeout]).phase = .r ∧
      (startAt 10 .r [.byte 0x00, .byte 0x00, .timeout]).pollMaxReads = none ∧
      (∀ v ∈ ([0x00, 0x00] : List Byte), v ≠ 0x12) ∧
      (startAt 10 .r [.byte 0x00, .byte 0x00, .timeout]).answers =
        ([0x00, 0x00] : List Byte).map Answer.byte ++ [.timeout] := by decide

/-- K11 and, for the smallest bound, K12. -/
theorem witness_BoundedPollEndsAtItsBound :
    ((bounded three 0 (startAt 3 .r [.byte 0, .byte 1, .byte 2])).resetReq = false ∧
      (bounded three 0 (startAt 3 .r [.byte 0, .byte 1, .byte 2])).currentStep = some (.poll 0x1E 0x12) ∧
      (bounded three 0 (startAt 3 .r [.byte 0, .byte 1, .byte 2])).phase = .r ∧
      (bounded three 0 (startAt 3 .r [.byte 0, .byte 1, .byte 2])).pollMaxReads = some three ∧
      (bounded three 0 (startAt 3 .r [.byte 0, .byte 1, .byte 2])).pollCnt = 0 ∧
      (∀ v ∈ ([0, 1, 2] : List Byte), v ≠ 0x12) ∧ ([0, 1, 2] : List Byte).length = three.n ∧
      (bounded three 0 (startAt 3 .r [.byte 0, .byte 1, .byte 2])).answers =
        ([0, 1, 2] : List Byte).map Answer.byte ++ []) ∧
      (bounded one 0 (startAt 3 .r [.byte 0])).currentStep = some (.poll 0x1E 0x12) ∧
      (bounded one 0 (startAt 3 .r [.byte 0])).pollMaxReads = some one ∧ ([0] : List Byte).length = one.n ∧
      (bounded one 0 (startAt 3 .r [.byte 0])).answers = ([0] : List Byte).map Answer.byte ++ [] := by decide

theorem witness_BoundedCommandsEnd : (bounded three 2 pollState).Legal ∧
    (bounded three 2 pollState).resetReq = false ∧ (bounded three 2 pollState).busy = true ∧
    (bounded three 2 pollState).pollMaxReads = some three := ⟨legal_bounded, rfl, rfl, rfl⟩

/-- P2's state before CAPTURE 0, but after other commands: another status, payload, capture and Reading. -/
def p2Other : State :=
  { p2Capture with status := .illegalCmd, pay := #v[9, 9, 9, 9], cap := #v[7, 7, 7], resMag := 7 }

theorem witness_CommandDependsOnlyOnOperandAndAnswers :
    p2Capture.Legal ∧ p2Other.Legal ∧ p2Capture.resetReq = false ∧ p2Other.resetReq = false ∧
      p2Capture.busy = true ∧ SameCommand p2Capture p2Other :=
  ⟨legal_p2Capture, ⟨rfl, by decide, (fun h => by cases h), fun _ => ⟨.capture 0, by decide⟩, rfl,
      fun _ => by decide, (fun h => by cases h)⟩, rfl, rfl, rfl,
    ⟨rfl, rfl, rfl, rfl, rfl, rfl, fun _ => rfl, (fun h => by cases h), fun _ => by decide⟩⟩

/-- Both commands, and an operand out of range. -/
theorem witness_AcceptedCommandsStartAlike :
    (∃ x, Instr.setCurrent 1000 = .setCurrent x) ∧ (∃ x, Instr.stopQuery 0 = .stopQuery x) ∧
      idleState.busy = false ∧ ({ idleState with status := .illegalCmd, cap := #v[1, 2, 3] } : State).busy = false ∧
      (∃ t t', exec (.setCurrent 1000) idleState = .next t ∧
        exec (.setCurrent 1000) { idleState with status := .illegalCmd, cap := #v[1, 2, 3] } = .next t') ∧
      (∃ t t', exec (.stopQuery 0) idleState = .next t ∧
        exec (.stopQuery 0) { idleState with status := .illegalCmd, cap := #v[1, 2, 3] } = .next t') ∧
      ∃ t, exec (.setCurrent 202207) idleState = .next t ∧ t.status = .encodeRange :=
  ⟨⟨_, rfl⟩, ⟨_, rfl⟩, rfl, rfl, ⟨_, _, rfl, rfl⟩, ⟨_, _, rfl, rfl⟩, _, rfl, by decide⟩

/-! ### Witnesses: the validator and the host's side -/

theorem witness_StepKeepsTraceConforming : ∃ t, p2Capture.Legal ∧ p2Capture.TraceConforms ∧
    step p2Capture = .next t := ⟨_, legal_p2Capture, conforms_p2Capture, rfl⟩

theorem witness_FinishedTraceHasTheSequencersVerdict :
    (∃ t, p2Last.Legal ∧ p2Last.TraceConforms ∧ p2Last.resetReq = false ∧ p2Last.busy = true ∧
      step p2Last = .next t ∧ t.busy = false ∧ p2Last.script = .stop ∧ t.status = .ok) ∧
    ∃ t, p3Last.Legal ∧ p3Last.TraceConforms ∧ p3Last.resetReq = false ∧ p3Last.busy = true ∧
      step p3Last = .next t ∧ t.busy = false :=
  ⟨⟨_, legal_p2Last, conforms_p2Last, rfl, rfl, rfl, rfl, rfl, rfl⟩,
    _, legal_p3Last, conforms_p3Last, rfl, rfl, rfl, rfl⟩

/-- The stop script at its beginning, with the answers of the first `k` events of P2. -/
def p2First (k : Nat) : State := stopAt 1 .w #v[false, false, false] (answersOf (p2Trace k))

/-- P2's whole trace, and a proper prefix of it. -/
theorem witness_ConformingTracesAreProduced : ∀ k ∈ [18, 6],
    (∀ n x, validate ⟨.stop, idleState.pay, none⟩ (p2Trace k) ≠ .violation n x) ∧
      (p2First k).script = .stop ∧ (p2First k).step = 1 ∧ (p2First k).phase = .w ∧
      (p2First k).pay = idleState.pay ∧ (p2First k).pollMaxReads = none ∧ (p2First k).rom = Rom.contents ∧
      (p2First k).resetReq = false ∧ (p2First k).trace = [] ∧ (p2First k).answers = answersOf (p2Trace k) := by
  have h18 : validate ⟨.stop, idleState.pay, none⟩ (p2Trace 18) = .completeOk (some #v[0x00, 0xDE, 0x00]) := by
    decide
  have h6 : validate ⟨.stop, idleState.pay, none⟩ (p2Trace 6) = .incomplete 4 .e := by decide
  intro k hk
  refine ⟨fun n x => ?_, rfl, rfl, rfl, rfl, rfl, rfl, rfl, rfl, rfl⟩
  simp only [List.mem_cons, List.not_mem_nil, or_false] at hk
  rcases hk with rfl | rfl
  · rw [h18]; simp
  · rw [h6]; simp

theorem witness_WrittenBytesOfAFinishedScript :
    (∃ t, v14Last.Legal ∧ v14Last.TraceConforms ∧ v14Last.resetReq = false ∧ v14Last.busy = true ∧
      step v14Last = .next t ∧ t.busy = false ∧ t.status = .ok ∧ v14Last.script = .start) ∧
    ∃ t, p2Last.Legal ∧ p2Last.TraceConforms ∧ p2Last.resetReq = false ∧ p2Last.busy = true ∧
      step p2Last = .next t ∧ t.busy = false ∧ t.status = .ok ∧ p2Last.script = .stop :=
  ⟨⟨_, legal_v14Last, conforms_v14Last, rfl, rfl, rfl, rfl, rfl, rfl⟩,
    _, legal_p2Last, conforms_p2Last, rfl, rfl, rfl, rfl, rfl, rfl⟩

theorem witness_EventCountsOfAFinishedScript :
    (∃ t, v14Last.Legal ∧ v14Last.TraceConforms ∧ v14Last.resetReq = false ∧ v14Last.busy = true ∧
      step v14Last = .next t ∧ t.busy = false ∧ t.status = .ok) ∧
    (∃ t, p2Last.Legal ∧ p2Last.TraceConforms ∧ p2Last.resetReq = false ∧ p2Last.busy = true ∧
      step p2Last = .next t ∧ t.busy = false ∧ t.status = .ok) ∧
    (∃ t, v19Last.Legal ∧ v19Last.TraceConforms ∧ v19Last.resetReq = false ∧ v19Last.busy = true ∧
      step v19Last = .next t ∧ t.busy = false ∧
      t.status = .queryFail 0) ∧
    ∃ t, p3Last.Legal ∧ p3Last.TraceConforms ∧ p3Last.resetReq = false ∧ p3Last.busy = true ∧
      step p3Last = .next t ∧ t.busy = false ∧ t.status = .queryFail 2 :=
  ⟨⟨_, legal_v14Last, conforms_v14Last, rfl, rfl, rfl, rfl, rfl⟩, ⟨_, legal_p2Last, conforms_p2Last, rfl, rfl, rfl, rfl, rfl⟩,
    ⟨_, legal_v19Last, conforms_v19Last, rfl, rfl, rfl, rfl, rfl⟩, _, legal_p3Last, conforms_p3Last, rfl, rfl, rfl, rfl, rfl⟩

theorem witness_QueryResultAtTheEndOfAStopQuery :
    (∃ t, p2Last.Legal ∧ p2Last.resetReq = false ∧ p2Last.script = .stop ∧ step p2Last = .next t ∧
      t.busy = false ∧ t.status = .ok) ∧
    (∃ t, p3Last.Legal ∧ p3Last.resetReq = false ∧ p3Last.script = .stop ∧ step p3Last = .next t ∧
      t.busy = false ∧ t.status = .queryFail 2) ∧ p2Last.busy = true :=
  ⟨⟨_, legal_p2Last, rfl, rfl, rfl, rfl, rfl⟩, ⟨_, legal_p3Last, rfl, rfl, rfl, rfl, rfl⟩, rfl⟩

theorem witness_PulseIsTheTwoCommandsBackToBack :
    (idleState.resetReq = false ∧ idleState.busy = false ∧ idleState.port = []) ∧
      (-202206 ≤ (-202206 : BitVec 32).toInt ∧ (-202206 : BitVec 32).toInt ≤ 202206) ∧
      ¬(-202206 ≤ (202207 : BitVec 32).toInt ∧ (202207 : BitVec 32).toInt ≤ 202206) ∧
      ({ idleState with port := facadeStopAndQuery } : State).busy = false ∧
      ({ idleState with port := facadeStopAndQuery } : State).port = facadeStopAndQuery := by decide

end Sys2Proof.Tests
end

/-! ## What one step can do

The inversion of `step`, said once: `MicroStep` lists the micro-steps of the five step kinds, `Accepted` the
acceptances of the four commands, and `StepCase` the five things a step of the machine can be. -/

namespace Sys2Proof

/-! ### Which words decode to a handshake step, and which to a command -/

/-- R76: the check of a must-be-zero field answers an instruction exactly when it holds and the rest does. -/
@[simp] theorem requireZero_eq_instr {ok : Bool} {why : Reject} {d : Decoded} {i : Instr} :
    requireZero ok why d = .instr i ↔ ok = true ∧ d = .instr i := by
  cases ok <;> simp [requireZero]

/-- R76: a step word never decodes to a command. -/
theorem isStep_of_decodeStepWord {w : StepWord} {i : Instr} (h : decodeStepWord w = .instr i) :
    i.isStep = true := by
  unfold decodeStepWord at h
  split at h <;> simp only [requireZero_eq_instr, Decoded.instr.injEq] at h
  case h_1 => obtain ⟨-, -, -, rfl⟩ := h; rfl
  case h_2 => obtain ⟨-, -, -, rfl⟩ := h; rfl
  case h_3 => obtain ⟨-, -, rfl⟩ := h; rfl
  case h_4 => obtain ⟨-, -, -, rfl⟩ := h; rfl
  case h_5 =>
    obtain ⟨-, -, -, hcap⟩ := h
    split at hcap <;> cases hcap
    rfl
  case h_6 => cases h

/-- R79: a command word never decodes to a handshake step. -/
theorem isStep_of_decodeCmdWord {w : CmdWord} {i : Instr} (h : decodeCmdWord w = .instr i) :
    i.isStep = false := by
  unfold decodeCmdWord at h
  split at h <;> cases h <;> rfl

end Sys2Proof

namespace Sys2Proof.Machine

/-! ### Fields after a read and after a control procedure -/

section Fields

variable (s : State)

@[simp] theorem State.consume_script (a : Answer) : (s.consume a).script = s.script := rfl
@[simp] theorem State.consume_step (a : Answer) : (s.consume a).step = s.step := rfl
@[simp] theorem State.consume_phase (a : Answer) : (s.consume a).phase = s.phase := rfl
@[simp] theorem State.consume_pollCnt (a : Answer) : (s.consume a).pollCnt = s.pollCnt := rfl
@[simp] theorem State.consume_status (a : Answer) : (s.consume a).status = s.status := rfl
@[simp] theorem State.consume_pay (a : Answer) : (s.consume a).pay = s.pay := rfl
@[simp] theorem State.consume_cap (a : Answer) : (s.consume a).cap = s.cap := rfl
@[simp] theorem State.consume_capValid (a : Answer) : (s.consume a).capValid = s.capValid := rfl
@[simp] theorem State.consume_resMag (a : Answer) : (s.consume a).resMag = s.resMag := rfl
@[simp] theorem State.consume_resNeg (a : Answer) : (s.consume a).resNeg = s.resNeg := rfl
@[simp] theorem State.consume_rom (a : Answer) : (s.consume a).rom = s.rom := rfl
@[simp] theorem State.consume_pollMaxReads (a : Answer) : (s.consume a).pollMaxReads = s.pollMaxReads := rfl

@[simp] theorem State.advance_pollCnt : s.advance.pollCnt = s.pollCnt := by simp [State.advance_keeps s]
@[simp] theorem State.advance_pay : s.advance.pay = s.pay := by simp [State.advance_keeps s]
@[simp] theorem State.advance_rom : s.advance.rom = s.rom := by simp [State.advance_keeps s]
@[simp] theorem State.advance_pollMaxReads : s.advance.pollMaxReads = s.pollMaxReads := by
  simp [State.advance_keeps s]

@[simp] theorem State.finish_busy : s.finish.busy = false := rfl

@[simp] theorem State.abort_busy (i : Fin 3) : (s.abort i).busy = false := rfl

end Fields

/-- R146, R147: an `Advance()` after which the script still runs was no `Finish()`: it leaves the status, the
result registers and the script. -/
theorem State.advance_results_of_busy {s : State} (h : s.advance.busy = true) :
    s.advance.status = s.status ∧ s.advance.resMag = s.resMag ∧ s.advance.resNeg = s.resNeg ∧
      s.advance.script = s.script := by
  have hne : s.step ≠ 10 := fun hlast => by simp [State.advance_of_last hlast] at h
  rw [State.advance_of_ne hne]
  exact ⟨rfl, rfl, rfl, rfl⟩

/-! ### The micro-steps of the step kinds -/

/-- R136 to R143: the micro-steps. `MicroStep i s t`: the step `i` takes a running block from `s` to `t`, for an
answer the environment may give. -/
inductive MicroStep : Instr → State → State → Prop
  | ackWrite {s : State} (b : Byte) : s.phase = .w → MicroStep (.ack b) s (s.writeThenRead b)
  | ackRead {s : State} (b : Byte) (a : Answer) : s.phase = .r → s.mayAnswer a →
      MicroStep (.ack b) s (s.consume a).advance
  | ackpWrite {s : State} (k : Fin 4) : s.phase = .w → MicroStep (.ackp k) s (s.writeThenRead (s.payload k))
  | ackpRead {s : State} (k : Fin 4) (a : Answer) : s.phase = .r → s.mayAnswer a →
      MicroStep (.ackp k) s (s.consume a).advance
  | pollWrite {s : State} (b e : Byte) : s.phase = .w → MicroStep (.poll b e) s (s.pollWrite b)
  | pollEnd {s : State} (b e : Byte) (a : Answer) : s.phase = .r → s.mayAnswer a →
      (∀ v, a = .byte v → v ≠ e → pollBoundReached s.pollMaxReads s.pollCnt = true) →
      MicroStep (.poll b e) s (s.consume a).advance
  | pollStay {s : State} (b e v : Byte) : s.phase = .r → s.mayAnswer (.byte v) → v ≠ e →
      pollBoundReached s.pollMaxReads s.pollCnt = false →
      MicroStep (.poll b e) s ((s.consume (.byte v)).setPollCnt (s.pollCnt + 1))
  | write {s : State} (b : Byte) : s.phase = .w → MicroStep (.write b) s (s.writeOnly b)
  | captureByte {s : State} (k : Fin 3) (v : Byte) : s.phase = .r → s.mayAnswer (.byte v) →
      MicroStep (.capture k) s { ((s.consume (.byte v)).setCaptured k v).setValid k with phase := .e }
  | captureTimeout {s : State} (k : Fin 3) : s.phase = .r → s.mayAnswer .timeout →
      MicroStep (.capture k) s ((s.consume .timeout).abort k)
  | captureEcho {s : State} (k : Fin 3) : s.phase = .e → MicroStep (.capture k) s (s.captureEcho k)

/-- R137: the read of an ACK is an `Advance()` whatever the answer. -/
theorem State.readAndDiscard_eq (s : State) :
    ∃ a, s.mayAnswer a ∧ s.readAndDiscard = (s.consume a).advance := by
  obtain ⟨a, ha, htx⟩ := s.txRead_eq_consume
  exact ⟨a, ha, by rw [State.readAndDiscard, htx]⟩

/-- R140, R144: the read of a POLL ends the step or discards a byte. -/
theorem microStep_pollRead {s : State} (b e : Byte) (hp : s.phase = .r) :
    MicroStep (.poll b e) s (s.pollRead e) := by
  obtain ⟨a, ha, htx⟩ := s.txRead_eq_consume
  simp only [State.pollRead, htx]
  cases a with
  | timeout => exact .pollEnd b e .timeout hp ha nofun
  | byte v =>
    by_cases hv : v = e
    · have heq : (s.consume (.byte v)).pollAnswer e (.byte v) = (s.consume (.byte v)).advance := if_pos hv
      exact heq ▸ .pollEnd b e (.byte v) hp ha fun x hx hne => absurd hv (by cases hx; exact hne)
    · have heq : (s.consume (.byte v)).pollAnswer e (.byte v) =
          if pollBoundReached s.pollMaxReads s.pollCnt then (s.consume (.byte v)).advance
          else (s.consume (.byte v)).setPollCnt (s.pollCnt + 1) := if_neg hv
      rw [heq]
      split
      case isTrue hb => exact .pollEnd b e (.byte v) hp ha fun _ _ _ => hb
      case isFalse hb => exact .pollStay b e v hp ha hv (Bool.eq_false_iff.2 hb)

/-- R142: the read of a CAPTURE keeps the byte or aborts. -/
theorem microStep_captureRead {s : State} (k : Fin 3) (hp : s.phase = .r) :
    MicroStep (.capture k) s (s.captureRead k) := by
  obtain ⟨a, ha, htx⟩ := s.txRead_eq_consume
  simp only [State.captureRead, htx]
  cases a with
  | timeout => exact .captureTimeout k hp ha
  | byte v => exact .captureByte k v hp ha

/-- R136: what a step kind can do: it runs only in a busy block, and then makes one micro-step. -/
theorem microStep_of_exec {i : Instr} {s t : State} (hi : i.isStep = true) (h : exec i s = .next t) :
    s.busy = true ∧ MicroStep i s t := by
  cases i with
  | ack b =>
    simp only [exec, execAck] at h
    split at h <;> cases h
    case h_2 hb hp => exact ⟨hb, .ackWrite b hp⟩
    case h_3 hb hp =>
      obtain ⟨a, ha, heq⟩ := s.readAndDiscard_eq
      exact ⟨hb, heq ▸ .ackRead b a hp ha⟩
  | ackp k =>
    simp only [exec, execAckp] at h
    split at h <;> cases h
    case h_2 hb hp => exact ⟨hb, .ackpWrite k hp⟩
    case h_3 hb hp =>
      obtain ⟨a, ha, heq⟩ := s.readAndDiscard_eq
      exact ⟨hb, heq ▸ .ackpRead k a hp ha⟩
  | poll b e =>
    simp only [exec, execPoll] at h
    split at h <;> cases h
    case h_2 hb hp => exact ⟨hb, .pollWrite b e hp⟩
    case h_3 hb hp => exact ⟨hb, microStep_pollRead b e hp⟩
  | write b =>
    simp only [exec, execWrite] at h
    split at h <;> cases h
    case h_2 hb hp => exact ⟨hb, .write b hp⟩
  | capture k =>
    simp only [exec, execCapture] at h
    split at h <;> cases h
    case h_3 hb hp => exact ⟨hb, microStep_captureRead k hp⟩
    case h_4 hb hp => exact ⟨hb, .captureEcho k hp⟩
  | encode _ => cases hi
  | decode _ _ _ _ => cases hi
  | setCurrent _ => cases hi
  | stopQuery _ => cases hi

/-- R137 to R143: no micro-step writes the payload, the ROM or the parameter. -/
theorem MicroStep.keeps {i : Instr} {s t : State} (h : MicroStep i s t) :
    t.pay = s.pay ∧ t.rom = s.rom ∧ t.pollMaxReads = s.pollMaxReads := by
  cases h <;> simp [State.writeThenRead, State.pollWrite, State.writeOnly, State.captureEcho, State.abort]

/-- R29, R249: a micro-step after which the script still runs leaves the status, the result registers and the
script. -/
theorem MicroStep.results_of_busy {i : Instr} {s t : State} (h : MicroStep i s t) (hb : t.busy = true) :
    t.status = s.status ∧ t.resMag = s.resMag ∧ t.resNeg = s.resNeg ∧ t.script = s.script := by
  cases h with
  | ackWrite | ackpWrite | pollWrite | pollStay | captureByte => exact ⟨rfl, rfl, rfl, rfl⟩
  | ackRead | ackpRead | pollEnd | write | captureEcho => exact State.advance_results_of_busy hb
  | captureTimeout => simp at hb

/-! ### The acceptance of a command -/

/-- R160 to R163: the acceptances. `Accepted i s t`: the command `i` takes an idle block from `s` to `t`. -/
inductive Accepted : Instr → State → State → Prop
  | encode {s : State} (ma : BitVec 32) (p : Payload) : encodeCurrent ma = .ok p →
      Accepted (.encode ma) s { s with trace := [], pay := p, status := .ok }
  | encodeRange {s : State} (ma : BitVec 32) : encodeCurrent ma = .range →
      Accepted (.encode ma) s { s with trace := [], status := .encodeRange }
  | decode {s : State} (ign b1 b2 b3 : Byte) :
      Accepted (.decode ign b1 b2 b3) s ((s.beginTrace.setReading (fieldDecode b1 b2 b3)).setStatus .ok)
  | setCurrent {s : State} (ma : BitVec 32) (p : Payload) : encodeCurrent ma = .ok p →
      Accepted (.setCurrent ma) s { s with trace := [], pay := p, script := .start, step := 1, phase := .w }
  | setCurrentRange {s : State} (ma : BitVec 32) : encodeCurrent ma = .range →
      Accepted (.setCurrent ma) s { s with trace := [], status := .encodeRange }
  | stopQuery {s : State} (ign : BitVec 32) :
      Accepted (.stopQuery ign) s (s.beginTrace.clearValid.enter .stop)

/-- R160 to R163: what a command presented to an idle block can do. -/
theorem accepted_of_exec {i : Instr} {s t : State} (hi : i.isStep = false) (hb : s.busy = false)
    (h : exec i s = .next t) : Accepted i s t := by
  cases i with
  | encode ma =>
    simp only [exec, execEncode, State.acceptWhenIdle_of_idle hb] at h
    cases h
    cases he : encodeCurrent ma with
    | ok p => exact .encode ma p he
    | range => exact .encodeRange ma he
  | decode ign b1 b2 b3 =>
    simp only [exec, execDecode, State.acceptWhenIdle_of_idle hb] at h
    cases h
    exact .decode ign b1 b2 b3
  | setCurrent ma =>
    simp only [exec, execSetCurrent, State.acceptWhenIdle_of_idle hb] at h
    cases h
    cases he : encodeCurrent ma with
    | ok p => exact .setCurrent ma p he
    | range => exact .setCurrentRange ma he
  | stopQuery ign =>
    simp only [exec, execStopQuery, State.acceptWhenIdle_of_idle hb] at h
    cases h
    exact .stopQuery ign
  | ack _ => cases hi
  | ackp _ => cases hi
  | poll _ _ => cases hi
  | write _ => cases hi
  | capture _ => cases hi

/-- R34, R63: no acceptance writes the ROM or the parameter. -/
theorem Accepted.keeps {i : Instr} {s t : State} (h : Accepted i s t) :
    t.rom = s.rom ∧ t.pollMaxReads = s.pollMaxReads := by
  cases h <;> exact ⟨rfl, rfl⟩

/-- R21: an acceptance that writes the payload is that of an ENCODE or a SET_CURRENT in range. -/
theorem Accepted.encodes_of_pay_ne {i : Instr} {s t : State} (h : Accepted i s t) (hne : t.pay ≠ s.pay) :
    ∃ ma, encodeCurrent ma = .ok t.pay ∧ (i = .encode ma ∨ i = .setCurrent ma) := by
  cases h with
  | encode ma p he => exact ⟨ma, he, .inl rfl⟩
  | setCurrent ma p he => exact ⟨ma, he, .inr rfl⟩
  | encodeRange | decode | setCurrentRange | stopQuery => exact absurd rfl hne

/-! ### The step -/

/-- R135: the step a running script is at is the one its ROM entry decodes to. -/
theorem State.currentStep_of_word {s : State} {w : StepWord} {i : Instr}
    (hw : s.rom.word s.script s.step.val = some w) (hi : decodeStepWord w = .instr i) :
    s.currentStep = some i := by
  simp [State.currentStep, hw, hi, Decoded.toOption]

/-- What a step of the machine can be: the reset, a micro-step of the running script, waiting, the answer to a
reserved opcode, or the acceptance of a command. -/
inductive StepCase : State → State → Prop
  | reset {s : State} : s.resetReq = true → StepCase s s.softReset
  | micro {s t : State} (i : Instr) : s.resetReq = false → s.busy = true → s.currentStep = some i →
      MicroStep i s t → StepCase s t
  | wait {s : State} : s.resetReq = false → s.busy = false → s.port = [] → StepCase s s
  | illegal {s : State} (w : CmdWord) (rest : List CmdWord) (why : Reject) : s.resetReq = false →
      s.busy = false → s.port = w :: rest → decodeCmdWord w = .reject why →
      StepCase s { s with port := rest, status := .illegalCmd }
  | accept {s t : State} (w : CmdWord) (rest : List CmdWord) (i : Instr) : s.resetReq = false →
      s.busy = false → s.port = w :: rest → decodeCmdWord w = .instr i →
      Accepted i { s with port := rest } t → StepCase s t

/-- R31, R164: the step of an idle block with a command at its port. -/
theorem step_of_command {s : State} {w : CmdWord} {rest : List CmdWord} {i : Instr} (hr : s.resetReq = false)
    (hb : s.busy = false) (hp : s.port = w :: rest) (hi : decodeCmdWord w = .instr i) :
    step s = exec i { s with port := rest } := by
  simp [step, fetch, hr, hb, fetchCommand_of_command hp hi]

/-- R135, R136: a running script makes a micro-step of the step it is at. -/
theorem stepCase_of_running {s t : State} (hr : s.resetReq = false) (hb : s.busy = true)
    (hf : fetch s = fetchStep s) (h : step s = .next t) : StepCase s t := by
  rw [step, hf] at h
  cases hw : s.rom.word s.script s.step.val with
  | none => simp [fetchStep, hw] at h
  | some w =>
    cases hi : decodeStepWord w with
    | reject why => simp [fetchStep_of_reserved hw hi] at h
    | instr i =>
      simp only [fetchStep_of_word hw hi] at h
      exact .micro i hr hb (State.currentStep_of_word hw hi)
        (microStep_of_exec (isStep_of_decodeStepWord hi) h).2

/-- R164 to R166: an idle block accepts a command, answers a reserved opcode, or waits. -/
theorem stepCase_of_idle {s t : State} (hr : s.resetReq = false) (hb : s.busy = false)
    (hf : fetch s = fetchCommand s) (h : step s = .next t) : StepCase s t := by
  cases hp : s.port with
  | nil =>
    simp only [step, hf, fetchCommand_of_nil hp] at h
    cases h
    exact .wait hr hb hp
  | cons w rest =>
    cases hi : decodeCmdWord w with
    | reject why =>
      simp only [step, hf, fetchCommand_of_reserved hp hi] at h
      cases h
      exact .illegal w rest why hr hb hp hi
    | instr i =>
      rw [step_of_command hr hb hp hi] at h
      exact .accept w rest i hr hb hp hi (accepted_of_exec (isStep_of_decodeCmdWord hi) hb h)

/-- Everything a step can do. -/
theorem stepCase_of_step {s t : State} (h : step s = .next t) : StepCase s t := by
  rcases fetch_cases s with ⟨hr, hf⟩ | ⟨hr, hb, hf⟩ | ⟨hr, hb, hf⟩
  · simp only [step, hf] at h
    cases h
    exact .reset hr
  · exact stepCase_of_running hr hb hf h
  · exact stepCase_of_idle hr hb hf h

/-- Settles O9. -/
theorem stepRunsThePresentedCommand : Obligations.StepRunsThePresentedCommand :=
  fun _ _ _ _ hr hb hp hi => step_of_command hr hb hp hi

/-- Settles O42: neither a reset, nor a micro-step, nor an acceptance names the ROM or the parameter. -/
theorem romIsNeverWritten : Obligations.RomIsNeverWritten := by
  intro s t h
  cases stepCase_of_step h with
  | reset | wait | illegal => exact ⟨rfl, rfl⟩
  | micro i _ _ _ hm => exact hm.keeps.2
  | accept w rest i _ _ _ _ ha => exact ha.keeps

/-- Settles O43: of the steps without a reset only an acceptance changes the payload. -/
theorem payloadWrittenOnlyByEncoding : Obligations.PayloadWrittenOnlyByEncoding := by
  intro s t hr h hne
  cases stepCase_of_step h with
  | reset hreq => simp [hr] at hreq
  | micro i _ _ _ hm => exact absurd hm.keeps.1 hne
  | wait | illegal => exact absurd rfl hne
  | accept w rest i _ hb hp hi ha =>
    obtain ⟨ma, hpay, hcmd⟩ := ha.encodes_of_pay_ne hne
    exact ⟨hb, ma, hpay, w, rest, hp, by simpa [hi] using hcmd⟩

/-- Settles O44: the step of a running block is a micro-step. -/
theorem resultsHoldWhileRunning : Obligations.ResultsHoldWhileRunning := by
  intro s t _ hr hb h ht
  cases stepCase_of_step h with
  | reset hreq => simp [hr] at hreq
  | micro i _ _ _ hm => exact hm.results_of_busy ht
  | wait _ hidle | illegal _ _ _ _ hidle | accept _ _ _ _ hidle => simp [hb] at hidle

end Sys2Proof.Machine

/-! ## Every step from a legal state leads to a legal state

`State.Legal` is kept operation by operation: by the Transport primitives, the poll counter, the turn to a read, a
captured byte, `Advance()`, and every operation that leaves the block idle. -/

namespace Sys2Proof.Machine

/-! ### The scripts the ROM holds -/

/-- R135: the step number `k` of a script, in the ROM contents of R77 and R78. -/
def romStep (sc : Script) (k : Nat) : Option Instr :=
  (Rom.contents.word sc k).bind fun w => (decodeStepWord w).toOption

/-- R34, R135: the step of a running block, where the ROM has its contents. -/
theorem State.currentStep_eq_romStep (s : State) (h : s.rom = Rom.contents) :
    s.currentStep = romStep s.script s.step.val := by
  cases hw : Rom.contents.word s.script s.step.val <;> simp [State.currentStep, romStep, h, hw]

/-- R136, R146: every step of a script has a micro-step in its entry phase. -/
theorem romStep_fits_entryPhase {sc : Script} (hsc : sc ≠ .idle) {k : Nat} (h10 : k < 10) :
    ∃ i, romStep sc (k + 1) = some i ∧ phaseFits i (entryPhase (Rom.contents.word sc (k + 1))) = true := by
  have table : ∀ j : Fin 10,
      ((romStep .start (j.val + 1)).any
        fun i => phaseFits i (entryPhase (Rom.contents.word .start (j.val + 1)))) = true ∧
      ((romStep .stop (j.val + 1)).any
        fun i => phaseFits i (entryPhase (Rom.contents.word .stop (j.val + 1)))) = true := by decide
  cases sc with
  | idle => exact absurd rfl hsc
  | start => simpa [Option.any_eq_true] using (table ⟨k, h10⟩).1
  | stop => simpa [Option.any_eq_true] using (table ⟨k, h10⟩).2

/-- R78: in the stop script the CAPTURE with index `i` stands at step `4 + i`, and nowhere else. -/
theorem romStep_stop_capture_iff (k : Fin 11) (i : Fin 3) :
    romStep .stop k.val = some (.capture i) ↔ k.val = 4 + i.val := by
  revert k i
  decide

/-- R146: no step is entered at its echo. -/
theorem entryPhase_ne_e (w : Option StepWord) : entryPhase w ≠ .e := by
  unfold entryPhase
  split <;> decide

/-! ### The captures a block has made -/

/-- R78: which captures the stop script has read. -/
theorem State.hasCaptured_iff (s : State) (i : Fin 3) :
    s.hasCaptured i = true ↔ 4 + i.val < s.step.val ∨ (s.step.val = 4 + i.val ∧ s.phase = .e) := by
  simp [State.hasCaptured]

/-- R78: a change of phase at a step that reads no capture makes no capture. -/
theorem State.hasCaptured_congr (s t : State) (hstep : t.step = s.step) (hs : s.phase ≠ .e) (ht : t.phase ≠ .e)
    (i : Fin 3) : t.hasCaptured i = s.hasCaptured i := by
  rw [Bool.eq_iff_iff, State.hasCaptured_iff, State.hasCaptured_iff, hstep]
  simp [hs, ht]

/-! ### Operations that leave the block idle -/

/-- R28, R144: a counter of 0 is below every bound. -/
theorem pollCntFits_zero (bound : Option PollBound) : pollCntFits bound 0 := by
  cases bound with
  | none => rfl
  | some b => exact b.pos

/-- R25, R27: an idle block is legal when its ROM, status and poll counter are. -/
theorem legal_of_idle {t : State} (hrom : t.rom = Rom.contents) (hst : t.status ≠ .decodeFail)
    (hsc : t.script = .idle) (hstep : t.step = 0) (hph : t.phase = .w)
    (hcnt : pollCntFits t.pollMaxReads t.pollCnt) : t.Legal where
  rom := hrom
  status := hst
  idle _ := ⟨hstep, hph⟩
  running h := absurd hsc h
  pollCnt := hcnt
  valid h := by simp [hsc] at h
  payload h := by simp [hsc] at h

/-- R230: a reset leaves a legal block. -/
theorem State.Legal.softReset {s : State} (h : s.Legal) : s.softReset.Legal :=
  legal_of_idle h.rom nofun rfl rfl rfl (pollCntFits_zero _)

/-- R148: a failed capture leaves a legal block. -/
theorem State.Legal.abort {s : State} (h : s.Legal) (i : Fin 3) : (s.abort i).Legal :=
  legal_of_idle h.rom nofun rfl rfl rfl h.pollCnt

/-- R147: a finished script leaves a legal block. -/
theorem State.Legal.finish {s : State} (h : s.Legal) : s.finish.Legal := by
  by_cases hs : s.script = .stop
  · rw [State.finish_of_stop hs]
    exact legal_of_idle h.rom nofun rfl rfl rfl h.pollCnt
  · rw [State.finish_of_ne_stop hs]
    exact legal_of_idle h.rom nofun rfl rfl rfl h.pollCnt

/-! ### Operations of a running script -/

/-- R51: a write to the Transport touches nothing that `Legal` reads. -/
theorem State.Legal.txWrite {s : State} (h : s.Legal) (b : Byte) : (s.txWrite b).Legal :=
  ⟨h.rom, h.status, h.idle, h.running, h.pollCnt, h.valid, h.payload⟩

/-- R52: a read of the Transport touches nothing that `Legal` reads. -/
theorem State.Legal.consume {s : State} (h : s.Legal) (a : Answer) : (s.consume a).Legal :=
  ⟨h.rom, h.status, h.idle, h.running, h.pollCnt, h.valid, h.payload⟩

/-- R28: the poll counter may be written with what fits below the bound. -/
theorem State.Legal.setPollCnt {s : State} (h : s.Legal) {n : Nat}
    (hn : pollCntFits s.pollMaxReads (pollCntAfter s.pollMaxReads s.pollCnt n)) : (s.setPollCnt n).Legal :=
  ⟨h.rom, h.status, h.idle, h.running, hn, h.valid, h.payload⟩

/-- R137 to R139: after its write a step that reads turns to its read. -/
theorem State.Legal.writeThenRead {s : State} (h : s.Legal) (b : Byte) (hb : s.busy = true)
    (hp : s.phase = .w) {i : Instr} (hi : s.currentStep = some i) (hr : phaseFits i .r = true) :
    (s.writeThenRead b).Legal where
  rom := h.rom
  status := h.status
  idle hsc := absurd hsc ((State.busy_iff s).1 hb)
  running _ := ⟨i, hi, hr⟩
  pollCnt := h.pollCnt
  valid hsc j := (h.valid hsc j).trans (State.hasCaptured_congr s (s.writeThenRead b) rfl (by simp [hp]) nofun j).symm
  payload := h.payload

/-- R142: a captured byte, in the read of the CAPTURE the script is at, sets the flag of that CAPTURE. -/
theorem State.Legal.captureByte {s : State} (h : s.Legal) (k : Fin 3) (v : Byte) (hb : s.busy = true)
    (hp : s.phase = .r) (hi : s.currentStep = some (.capture k)) :
    ({ (s.setCaptured k v).setValid k with phase := .e } : State).Legal where
  rom := h.rom
  status := h.status
  idle hsc := absurd hsc ((State.busy_iff s).1 hb)
  running _ := ⟨.capture k, hi, rfl⟩
  pollCnt := h.pollCnt
  valid hsc j := by
    have hsc : s.script = .stop := hsc
    have hstep : s.step.val = 4 + k.val := by
      rwa [State.currentStep_eq_romStep _ h.rom, hsc, romStep_stop_capture_iff] at hi
    have hold := Bool.eq_iff_iff.1 (h.valid hsc j)
    rw [State.hasCaptured_iff, hp] at hold
    rw [Bool.eq_iff_iff, State.hasCaptured_iff]
    simp only [State.setValid_capValid, State.setCaptured_capValid, State.setValid_step,
      State.setCaptured_step, hstep, Fin.getElem_fin, Vector.getElem_set]
    by_cases hjk : k.val = j.val
    · simp [hjk]
    · rw [if_neg hjk]
      simp only [Fin.getElem_fin] at hold
      rw [hold, hstep]
      simp only [reduceCtorEq, and_false, or_false, and_true]
      omega
  payload := h.payload

/-- R25: before step 10 the step counter does not wrap. -/
theorem State.step_add_one_val {s : State} (h : s.step ≠ 10) : (s.step + 1).val = s.step.val + 1 := by
  have hlt := s.step.isLt
  have hne : s.step.val ≠ 10 := fun hv => h (Fin.ext hv)
  rw [Fin.val_add]
  exact Nat.mod_eq_of_lt (by omega)

/-- R78, R146: an `Advance()` of the stop script that leaves a CAPTURE leaves it after its read, so the captures made
are the same in the step entered. -/
theorem State.hasCaptured_advance {s : State} (h : s.Legal) (hsc : s.script = .stop) (hne : s.step ≠ 10)
    (hlast : ∀ k, s.currentStep = some (.capture k) → s.phase = .e) (j : Fin 3) :
    s.advance.hasCaptured j = s.hasCaptured j := by
  have hecho : s.step.val = 4 + j.val → s.phase = .e := fun hstep => hlast j (by
    rwa [State.currentStep_eq_romStep _ h.rom, hsc, romStep_stop_capture_iff])
  rw [Bool.eq_iff_iff, State.hasCaptured_iff, State.hasCaptured_iff, State.advance_of_ne hne]
  simp only [State.step_add_one_val hne, entryPhase_ne_e, and_false, or_false]
  constructor
  · intro hlt
    by_cases heq : s.step.val = 4 + j.val
    · exact .inr ⟨heq, hecho heq⟩
    · exact .inl (by omega)
  · rintro (hlt | ⟨heq, -⟩) <;> omega

/-- R146: `Advance()` from the last micro-step of a step leads to a legal block. -/
theorem State.Legal.advance {s : State} (h : s.Legal) (hb : s.busy = true)
    (hlast : ∀ k, s.currentStep = some (.capture k) → s.phase = .e) : s.advance.Legal := by
  by_cases hten : s.step = 10
  · rw [State.advance_of_last hten]
    exact h.finish
  have hsc := (State.busy_iff s).1 hb
  have hval := State.step_add_one_val hten
  have hcap := State.hasCaptured_advance h (hne := hten) (hlast := hlast)
  have hstep : s.advance.currentStep = romStep s.script (s.step.val + 1) := by
    rw [State.currentStep_eq_romStep _ (s.advance_rom.trans h.rom), State.advance_of_ne hten]
    exact congrArg (romStep s.script) hval
  rw [State.advance_of_ne hten] at hcap hstep ⊢
  exact
    { rom := h.rom
      status := h.status
      idle := fun hidle => absurd hidle hsc
      running := fun _ => by
        rw [hstep, h.rom]
        exact romStep_fits_entryPhase hsc (by omega)
      pollCnt := h.pollCnt
      valid := fun hstop j => (h.valid hstop j).trans (hcap hstop j).symm
      payload := h.payload }

/-- R136 to R143: a micro-step of the step a legal block is at leads to a legal block. -/
theorem State.Legal.microStep {s t : State} {i : Instr} (h : s.Legal) (hb : s.busy = true)
    (hi : s.currentStep = some i) (hm : MicroStep i s t) : t.Legal := by
  have hkind : ∀ k, i ≠ .capture k → s.currentStep = some (.capture k) → s.phase = .e := fun k hne hk =>
    absurd (Option.some.inj (hi.symm.trans hk)) hne
  cases hm with
  | ackWrite b hp => exact h.writeThenRead b hb hp hi rfl
  | ackpWrite k hp => exact h.writeThenRead _ hb hp hi rfl
  | pollWrite b e hp => exact (h.writeThenRead b hb hp hi rfl).setPollCnt (pollCntFits_clear h.pollCnt)
  | ackRead b a | ackpRead b a | pollEnd _ _ a => exact (h.consume a).advance hb fun k => hkind k nofun
  | pollStay b e v _ _ _ hbound => exact (h.consume _).setPollCnt (pollCntFits_bump h.pollCnt hbound)
  | write b => exact (h.txWrite b).advance hb fun k => hkind k nofun
  | captureByte k v hp => exact (h.consume _).captureByte k v hb hp hi
  | captureTimeout k => exact (h.consume .timeout).abort k
  | captureEcho k hp => exact (h.txWrite _).advance hb fun _ _ => hp

/-! ### The acceptance of a command -/

/-- R106, R107: the reserved byte and the sign byte of an encoded payload. -/
theorem encodeCurrent_ok_bytes {ma : BitVec 32} {p : Payload} (h : encodeCurrent ma = .ok p) :
    p[2] = 0x00 ∧ (p[3] = 0x00 ∨ p[3] = 0x01) := by
  unfold encodeCurrent at h
  split at h <;> cases h
  refine ⟨rfl, ?_⟩
  by_cases hs : 0 ≤ ma.toInt
  · exact .inr (if_pos hs)
  · exact .inl (if_neg hs)

/-- R77, R78: both scripts begin with the ACK of the literal 0x64. -/
theorem romStep_one {sc : Script} (hsc : sc ≠ .idle) : romStep sc 1 = some (.ack 0x64) := by
  cases sc with
  | idle => exact absurd rfl hsc
  | start | stop => decide

/-- R23: in cleared valid flags no flag is set. -/
theorem clearFlags_getElem (j : Fin 3) : (#v[false, false, false] : Vector Bool 3)[j] = false := by
  revert j
  decide

/-- R162, R163: a script entered at its step 1 is legal, with the valid flags clear for the stop script and an
encoded payload for the start script. -/
theorem State.Legal.enter {s : State} (h : s.Legal) {sc : Script} (hsc : sc ≠ .idle)
    (hvalid : sc = .stop → s.capValid = #v[false, false, false])
    (hpay : sc = .start → s.pay[2] = 0x00 ∧ (s.pay[3] = 0x00 ∨ s.pay[3] = 0x01)) : (s.enter sc).Legal where
  rom := h.rom
  status := h.status
  idle hidle := absurd hidle hsc
  running _ := ⟨.ack 0x64, ((s.enter sc).currentStep_eq_romStep h.rom).trans (romStep_one hsc), rfl⟩
  pollCnt := h.pollCnt
  valid hstop j := by
    have hnone : (s.enter sc).hasCaptured j = false := by simp [State.hasCaptured]
    rw [hnone, State.enter_capValid, hvalid hstop]
    exact clearFlags_getElem j
  payload := hpay

/-- R160 to R163: an acceptance by a legal idle block leads to a legal block. -/
theorem State.Legal.accepted {s t : State} {i : Instr} (h : s.Legal) (hb : s.busy = false)
    (ha : Accepted i s t) : t.Legal := by
  have hsc := (State.not_busy_iff s).1 hb
  obtain ⟨hstep, hph⟩ := h.idle hsc
  cases ha with
  | encode | encodeRange | decode | setCurrentRange =>
    exact legal_of_idle h.rom nofun hsc hstep hph h.pollCnt
  | setCurrent ma p he =>
    have hpaid : ({ s with trace := [], pay := p } : State).Legal :=
      legal_of_idle h.rom h.status hsc hstep hph h.pollCnt
    exact hpaid.enter (sc := .start) nofun nofun fun _ => encodeCurrent_ok_bytes he
  | stopQuery =>
    have hclear : s.beginTrace.clearValid.Legal := legal_of_idle h.rom h.status hsc hstep hph h.pollCnt
    exact hclear.enter (sc := .stop) nofun (fun _ => rfl) nofun

/-- Settles O39: each case of a step keeps `State.Legal`. -/
theorem stepKeepsLegal : Obligations.StepKeepsLegal := by
  intro s t h hstep
  cases stepCase_of_step hstep with
  | reset => exact h.softReset
  | micro i _ hb hi hm => exact h.microStep hb hi hm
  | wait => exact h
  | illegal w rest why _ hb =>
    have hsc := (State.not_busy_iff s).1 hb
    obtain ⟨hzero, hph⟩ := h.idle hsc
    exact legal_of_idle h.rom nofun hsc hzero hph h.pollCnt
  | accept w rest i _ hb _ _ ha =>
    have hport : ({ s with port := rest } : State).Legal :=
      ⟨h.rom, h.status, h.idle, h.running, h.pollCnt, h.valid, h.payload⟩
    exact hport.accepted hb ha

end Sys2Proof.Machine

/-! ## The encoding: the decoder and the encoder are inverse, and reject exactly the reserved words

A step word is its five fields and a command word its two (`packStep_of_fields`, `packCmd_of_fields`); with
`packStep_fields` and `packCmd_fields`, which take the fields out again, both round trips are an argument about one
row of the tables of R76 and R79 at a time. -/

namespace Sys2Proof

/-! ### Words and arguments from their fields -/

/-- R76: a step word whose zero field is 000 is packed from the values of its other four fields. -/
theorem packStep_of_fields {w : StepWord} {kind : BitVec 3} {idx : BitVec 2} {wbyte expect : Byte}
    (hkind : (stepKind w).toNat = kind.toNat) (hzero : stepZero w = 0) (hidx : stepIdx w = idx)
    (hwbyte : stepWbyte w = wbyte) (hexpect : stepExpect w = expect) : packStep kind idx wbyte expect = w := by
  have hzero' : w.toNat / 2 ^ 18 % 2 ^ 3 = 0 := by
    rw [← slice_toNat]
    exact congrArg BitVec.toNat hzero
  subst hidx hwbyte hexpect
  apply BitVec.eq_of_toNat_eq
  simp only [packStep_toNat, ← hkind, stepKind, stepIdx, stepWbyte, stepExpect, slice_toNat]
  omega

/-- R79: a command word is packed from the values of its two fields. -/
theorem packCmd_of_fields {w : CmdWord} {op : BitVec 3} {arg : BitVec 32} (hop : (cmdOp w).toNat = op.toNat)
    (harg : cmdArg w = arg) : packCmd op arg = w := by
  subst harg
  apply BitVec.eq_of_toNat_eq
  simp only [packCmd_toNat, ← hop, cmdOp, cmdArg, slice_toNat]
  omega

/-- R79: a 32-bit argument is its four bytes. -/
theorem append_argBytes (a : BitVec 32) :
    a.extractLsb' 24 8 ++ a.extractLsb' 16 8 ++ a.extractLsb' 8 8 ++ a.extractLsb' 0 8 = a := by
  apply BitVec.eq_of_toNat_eq
  simp only [append_toNat, slice_toNat]
  omega

/-- R79: the bytes of an argument appended from four bytes. -/
theorem argBytes_append (b0 b1 b2 b3 : Byte) :
    (b0 ++ b1 ++ b2 ++ b3).extractLsb' 24 8 = b0 ∧ (b0 ++ b1 ++ b2 ++ b3).extractLsb' 16 8 = b1 ∧
      (b0 ++ b1 ++ b2 ++ b3).extractLsb' 8 8 = b2 ∧ (b0 ++ b1 ++ b2 ++ b3).extractLsb' 0 8 = b3 := by
  refine ⟨?_, ?_, ?_, ?_⟩ <;> apply BitVec.eq_of_toNat_eq <;> simp only [append_toNat, slice_toNat] <;> omega

/-! ### The decoder, an equation per command opcode -/

/-- R79: opcode 001. -/
theorem decodeCmdWord_of_encode {w : CmdWord} (h : cmdOp w = 0b001#3) :
    decodeCmdWord w = .instr (.encode (cmdArg w)) := by
  simp [decodeCmdWord, h]

/-- R79: opcode 010. -/
theorem decodeCmdWord_of_decode {w : CmdWord} (h : cmdOp w = 0b010#3) :
    decodeCmdWord w = .instr (.decode ((cmdArg w).extractLsb' 24 8) ((cmdArg w).extractLsb' 16 8)
      ((cmdArg w).extractLsb' 8 8) ((cmdArg w).extractLsb' 0 8)) := by
  simp [decodeCmdWord, h]

/-- R79: opcode 011. -/
theorem decodeCmdWord_of_setCurrent {w : CmdWord} (h : cmdOp w = 0b011#3) :
    decodeCmdWord w = .instr (.setCurrent (cmdArg w)) := by
  simp [decodeCmdWord, h]

/-- R79: opcode 100. -/
theorem decodeCmdWord_of_stopQuery {w : CmdWord} (h : cmdOp w = 0b100#3) :
    decodeCmdWord w = .instr (.stopQuery (cmdArg w)) := by
  simp [decodeCmdWord, h]

/-! ### The round trips -/

/-- Settles O5, one row of the opcode table at a time. -/
theorem decodeOfEncodeIsTheInstruction : Obligations.DecodeOfEncodeIsTheInstruction := by
  intro i
  cases i with
  | ack | ackp | poll | write =>
    simp [encodeInstr, decodeWord, decodeStepWord, packStep_fields, requireZero]
  | capture i =>
    have hidx : i.val % 4 = i.val := Nat.mod_eq_of_lt (by omega)
    simp [encodeInstr, decodeWord, decodeStepWord, packStep_fields, requireZero, hidx]
  | encode arg => simp [encodeInstr, decodeWord, decodeCmdWord_of_encode, packCmd_fields]
  | decode ign b1 b2 b3 =>
    simp [encodeInstr, decodeWord, decodeCmdWord_of_decode, packCmd_fields, argBytes_append]
  | setCurrent arg => simp [encodeInstr, decodeWord, decodeCmdWord_of_setCurrent, packCmd_fields]
  | stopQuery ign => simp [encodeInstr, decodeWord, decodeCmdWord_of_stopQuery, packCmd_fields]

/-- R76: an accepted step word is the word of its step: each field is either an operand or checked. -/
theorem encodeInstr_of_decodeStepWord {w : StepWord} {i : Instr} (h : decodeStepWord w = .instr i) :
    encodeInstr i = .step w := by
  have hofNat : stepIdx w = BitVec.ofNat 2 (stepIdx w).toNat := by simp
  unfold decodeStepWord at h
  split at h <;> simp only [requireZero_eq_instr, Decoded.instr.injEq, beq_iff_eq] at h
  case h_1 hk =>
    obtain ⟨hz, hidx, hexp, rfl⟩ := h
    exact congrArg Encoded.step (packStep_of_fields hk hz hidx rfl hexp)
  case h_2 hk =>
    obtain ⟨hz, hwb, hexp, rfl⟩ := h
    exact congrArg Encoded.step (packStep_of_fields hk hz hofNat hwb hexp)
  case h_3 hk =>
    obtain ⟨hz, hidx, rfl⟩ := h
    exact congrArg Encoded.step (packStep_of_fields hk hz hidx rfl rfl)
  case h_4 hk =>
    obtain ⟨hz, hidx, hexp, rfl⟩ := h
    exact congrArg Encoded.step (packStep_of_fields hk hz hidx rfl hexp)
  case h_5 hk =>
    obtain ⟨hz, hwb, hexp, hcap⟩ := h
    split at hcap <;> cases hcap
    exact congrArg Encoded.step (packStep_of_fields hk hz hofNat hwb hexp)
  case h_6 => cases h

/-- R79: an accepted command word is the word of its command. -/
theorem encodeInstr_of_decodeCmdWord {w : CmdWord} {i : Instr} (h : decodeCmdWord w = .instr i) :
    encodeInstr i = .command w := by
  unfold decodeCmdWord at h
  split at h <;> cases h
  case h_1 hop => exact congrArg Encoded.command (packCmd_of_fields hop rfl)
  case h_2 hop => exact congrArg Encoded.command (packCmd_of_fields hop (append_argBytes _).symm)
  case h_3 hop => exact congrArg Encoded.command (packCmd_of_fields hop rfl)
  case h_4 hop => exact congrArg Encoded.command (packCmd_of_fields hop rfl)

/-- Settles O6. -/
theorem encodeOfDecodeIsTheWord : Obligations.EncodeOfDecodeIsTheWord := by
  intro e i h
  cases e with
  | step w => exact encodeInstr_of_decodeStepWord h
  | command w => exact encodeInstr_of_decodeCmdWord h

/-! ### The rejected words -/

/-- An answer that is no instruction is a rejection. -/
theorem Decoded.rejects_iff (d : Decoded) : (∃ why, d = .reject why) ↔ ¬∃ i, d = .instr i := by
  cases d <;> simp

/-- R76, R83: the field checks of a step word, in the decoder's names for the fields. -/
theorem StepWord.wellFormed_iff (w : StepWord) :
    StepWord.wellFormed w = true ↔
      (stepKind w).toNat ≤ 4 ∧ stepZero w = 0 ∧ w.idxOk = true ∧ w.wbyteOk = true ∧ w.expectOk = true := by
  simp [StepWord.wellFormed, StepWord.kindOk, StepWord.zeroOk, stepKind, stepZero, and_assoc]

/-- R76, R83: the check of `idx`. -/
theorem StepWord.idxOk_iff (w : StepWord) :
    w.idxOk = true ↔ ((stepKind w).toNat = 4 → (stepIdx w).toNat < 3) ∧
      ((stepKind w).toNat ≠ 1 → (stepKind w).toNat ≠ 4 → stepIdx w = 0) := by
  have hlt : (stepIdx w).toNat < 3 ↔ stepIdx w ≠ 3 := by bv_omega
  rw [hlt, StepWord.idxOk, stepKind, stepIdx]
  split <;> simp_all

/-- R76: the check of `wbyte`. -/
theorem StepWord.wbyteOk_iff (w : StepWord) :
    w.wbyteOk = true ↔ ((stepKind w).toNat = 1 ∨ (stepKind w).toNat = 4 → stepWbyte w = 0) := by
  rw [StepWord.wbyteOk, stepKind, stepWbyte]
  split <;> simp_all

/-- R76: the check of `expect`. -/
theorem StepWord.expectOk_iff (w : StepWord) :
    w.expectOk = true ↔ ((stepKind w).toNat ≠ 2 → stepExpect w = 0) := by
  rw [StepWord.expectOk, stepKind, stepExpect]
  split <;> simp_all

/-- R76, R83: a step word has a step exactly when it passes the field checks. -/
theorem decodeStepWord_accepts_iff (w : StepWord) :
    (∃ i, decodeStepWord w = .instr i) ↔ StepWord.wellFormed w = true := by
  rw [StepWord.wellFormed_iff, StepWord.idxOk_iff, StepWord.wbyteOk_iff, StepWord.expectOk_iff]
  unfold decodeStepWord
  split
  case h_1 hk => simp [hk]
  case h_2 hk => simp [hk]
  case h_3 hk => simp [hk]
  case h_4 hk => simp [hk]
  case h_5 hk => by_cases hidx : (stepIdx w).toNat < 3 <;> simp [hk, hidx]
  case h_6 h0 h1 h2 h3 h4 =>
    simp only [imp_false] at h0 h1 h2 h3 h4
    have hkind : ¬(stepKind w).toNat ≤ 4 := by omega
    simp [hkind]

/-- R79, R84: a command word has a command exactly when its opcode is 001 to 100. -/
theorem decodeCmdWord_accepts_iff (w : CmdWord) :
    (∃ i, decodeCmdWord w = .instr i) ↔ CmdWord.wellFormed w = true := by
  rw [decodeCmdWord, CmdWord.wellFormed, ← cmdOp]
  split
  case h_1 hop => simp [hop]
  case h_2 hop => simp [hop]
  case h_3 hop => simp [hop]
  case h_4 hop => simp [hop]
  case h_5 h1 h2 h3 h4 =>
    simp only [imp_false] at h1 h2 h3 h4
    have hop : 1 ≤ (cmdOp w).toNat → 4 < (cmdOp w).toNat := by omega
    simpa using hop

/-- R83, R84: the decoder rejects exactly the reserved words. -/
theorem decodeWord_rejects_iff (e : Encoded) : (∃ why, decodeWord e = .reject why) ↔ e.wellFormed = false := by
  rw [Decoded.rejects_iff, ← Bool.not_eq_true]
  cases e with
  | step w => exact not_congr (decodeStepWord_accepts_iff w)
  | command w => exact not_congr (decodeCmdWord_accepts_iff w)

namespace Machine

/-- R83: a running script whose ROM entry is reserved is refused. -/
theorem step_of_reservedStepWord {s : State} {w : StepWord} {why : Reject} (hr : s.resetReq = false)
    (hb : s.busy = true) (hw : s.rom.word s.script s.step.val = some w) (hd : decodeStepWord w = .reject why) :
    step s = .refused (.reservedStepWord w) := by
  simp [step, fetch, hr, hb, fetchStep_of_reserved hw hd]

/-- Settles O7. -/
theorem reservedWordsAreRefused : Obligations.ReservedWordsAreRefused := by
  refine ⟨decodeWord_rejects_iff, fun s w hr hb hw hres => ?_⟩
  obtain ⟨why, hd⟩ := (decodeWord_rejects_iff (.step w)).2 hres
  exact step_of_reservedStepWord hr hb hw hd

/-! ### The ignored argument bits -/

/-- R79: bytes 2 to 0 of the argument are the bytes of bits 23:0 of the word. -/
theorem cmdArg_byte_eq {w w' : CmdWord} (h : w.extractLsb' 0 24 = w'.extractLsb' 0 24) {lo : Nat}
    (hlo : lo + 8 ≤ 24) : (cmdArg w).extractLsb' lo 8 = (cmdArg w').extractLsb' lo 8 := by
  have hslice (v : CmdWord) : (cmdArg v).extractLsb' lo 8 = (v.extractLsb' 0 24).extractLsb' lo 8 := by
    ext j hj
    have h24 : lo + j < 24 := by omega
    have h32 : lo + j < 32 := by omega
    simp [cmdArg, h24, h32]
  rw [hslice, hslice, h]

/-- Settles O25: the two words decode to one command but for the operand its meaning ignores. -/
theorem ignoredArgumentBitsMakeNoDifference : Obligations.IgnoredArgumentBitsMakeNoDifference := by
  intro s w w' rest hr hb hop hcase
  have hstep {v : CmdWord} {i : Instr} (hi : decodeCmdWord v = .instr i) :
      step { s with port := v :: rest } = exec i { s with port := rest } := step_of_command hr hb rfl hi
  rcases hcase with hw | ⟨hw, hbits⟩
  · rw [hstep (decodeCmdWord_of_stopQuery hw), hstep (decodeCmdWord_of_stopQuery (hop ▸ hw))]
    rfl
  · rw [hstep (decodeCmdWord_of_decode hw), hstep (decodeCmdWord_of_decode (hop ▸ hw)),
      cmdArg_byte_eq hbits (lo := 16) (by decide), cmdArg_byte_eq hbits (lo := 8) (by decide),
      cmdArg_byte_eq hbits (lo := 0) (by decide)]
    rfl

end Machine

/-! ### The words the spec writes out -/

/-- Settles O3: the twenty words, each run through the decoder. -/
theorem romHoldsTheTwoScripts : Obligations.RomHoldsTheTwoScripts := by
  constructor <;> decide

/-- Settles O4: the nine words, each run through the decoder. -/
theorem sampleWordsDecode : Obligations.SampleWordsDecode := by
  unfold Obligations.SampleWordsDecode
  decide

end Sys2Proof

/-! ## The encoder: its domain, its bytes and its counts

`Encode` is settled by one equivalence, `encodeCurrent_eq_ok_iff`: up to 202206 mA either way it is the payload of the
counts and the sign byte. What the statements say is then a fact about `counts` or about the sign byte alone. -/

namespace Sys2Proof.Machine

/-! ### The counts -/

/-- R104: `counts` as a floor, in unbounded integers. -/
theorem counts_floor (m : Nat) : 1950 * counts m ≤ 632 * m + 975 ∧ 632 * m + 975 < 1950 * (counts m + 1) := by
  rw [counts_eq]
  omega

/-- R104: the floor is the only integer between these bounds. -/
theorem counts_eq_of_floor {m c : Nat} (hle : 1950 * c ≤ 632 * m + 975) (hlt : 632 * m + 975 < 1950 * (c + 1)) :
    counts m = c := by
  have := counts_floor m
  omega

/-- R105: no operand is half way between two counts, since 632 and 1950 are even and 975 is odd. -/
theorem counts_no_tie (m : Nat) : (632 * m + 975) % 1950 ≠ 0 := by
  omega

/-- R110 (g): a larger magnitude has no smaller counts. -/
theorem counts_mono {m n : Nat} (h : m ≤ n) : counts m ≤ counts n := by
  have hm := counts_floor m
  have hn := counts_floor n
  omega

/-- R104: one more milliamp is less than one more count. -/
theorem counts_succ_le (m : Nat) : counts (m + 1) ≤ counts m + 1 := by
  have hm := counts_floor m
  have hsucc := counts_floor (m + 1)
  omega

/-- R108: the magnitudes whose counts two payload bytes hold. -/
theorem counts_le_iff (m : Nat) : counts m ≤ 65535 ↔ m ≤ 202206 := by
  have := counts_floor m
  omega

/-- D1: every count is reached, by the whole number of milliamps just below `c * 975/316`. -/
theorem counts_milliampsBelow (c : Nat) : counts (1950 * c / 632) = c :=
  counts_eq_of_floor (by omega) (by omega)

/-- Settles O13. -/
theorem countsIsTheNearestInteger : Obligations.CountsIsTheNearestInteger := by
  refine ⟨counts_floor, counts_no_tie, fun m hm => ?_⟩
  have := counts_floor m
  omega

/-! ### The sign -/

/-- R102: the sign byte of a non-negative operand. -/
theorem signByte_of_nonneg {ma : BitVec 32} (h : 0 ≤ ma.toInt) : signByte ma = 0x01 := if_pos h

/-- R102: the sign byte of a negative operand. -/
theorem signByte_of_neg {ma : BitVec 32} (h : ma.toInt < 0) : signByte ma = 0x00 := if_neg (by omega)

/-- R111: which operands have the sign byte 0x01. -/
theorem signByte_eq_one_iff (ma : BitVec 32) : signByte ma = 0x01 ↔ 0 ≤ ma.toInt := by
  by_cases hs : 0 ≤ ma.toInt
  · simp only [signByte_of_nonneg hs, hs]
  · have hne : (0x00 : Byte) ≠ 0x01 := by decide
    rw [signByte_of_neg (Int.not_le.1 hs)]
    exact iff_of_false hne hs

/-- R101: a positive operand has a negative in 32 bits. -/
theorem toInt_neg_of_pos {ma : BitVec 32} (h : 0 < ma.toInt) : (-ma).toInt = -ma.toInt := by
  have hmin : ma ≠ BitVec.intMin 32 := by
    rintro rfl
    exact absurd h (by decide)
  exact BitVec.toInt_neg_of_ne_intMin hmin

/-- R101: an operand of at most 202206 mA, as a signed number. -/
theorem toInt_ofNat_of_inRange {m : Nat} (h : m ≤ 202206) : (BitVec.ofNat 32 m).toInt = m := by
  rw [BitVec.toInt_ofNat', Int.bmod_eq_of_le] <;> omega

/-! ### The domain and the payload -/

/-- R108, R109: the operands `Encode` answers with a payload, and the payload. -/
theorem encodeCurrent_eq_ok_iff (ma : BitVec 32) (p : Payload) :
    encodeCurrent ma = .ok p ↔
      ma.toInt.natAbs ≤ 202206 ∧ payloadOf (counts ma.toInt.natAbs) (signByte ma) = p := by
  rw [← counts_le_iff, ← milliampMagnitude]
  by_cases hfits : counts (milliampMagnitude ma) ≤ 65535
  · simp [encodeCurrent_of_fits hfits, hfits]
  · simp [encodeCurrent_of_not_fits hfits, hfits]

/-- R108: the operands `Encode` refuses. -/
theorem encodeCurrent_eq_range_iff (ma : BitVec 32) : encodeCurrent ma = .range ↔ 202206 < ma.toInt.natAbs := by
  rw [← Nat.not_le, ← counts_le_iff, ← milliampMagnitude]
  by_cases hfits : counts (milliampMagnitude ma) ≤ 65535
  · simp [encodeCurrent_of_fits hfits, hfits]
  · simp [encodeCurrent_of_not_fits hfits, hfits]

/-- R106, R107: the payload from the values of its two count bytes. -/
theorem payloadOf_of_bytes {c : Nat} {high low : Byte} (hhigh : highByte c = high) (hlow : lowByte c = low)
    (sign : Byte) : payloadOf c sign = #v[high, low, 0x00, sign] := by
  subst hhigh hlow
  rfl

/-- R106: a count put together from two bytes is split into them. -/
theorem payloadOf_bytes (high low sign : Byte) :
    payloadOf (256 * high.toNat + low.toNat) sign = #v[high, low, 0x00, sign] := by
  apply payloadOf_of_bytes <;> apply BitVec.eq_of_toNat_eq
  · rw [highByte_toNat]
    omega
  · rw [lowByte_toNat]
    omega

/-- Settles O14. -/
theorem encodeRefusesExactlyOutOfRange : Obligations.EncodeRefusesExactlyOutOfRange := by
  refine ⟨counts_le_iff, fun ma => ?_⟩
  rw [encodeCurrent_eq_range_iff]
  omega

/-- Settles O15: counts in range are below 65536, so their high byte is not cut. -/
theorem encodePayloadBytes : Obligations.EncodePayloadBytes := by
  intro ma hlow hhigh
  have hmag : ma.toInt.natAbs ≤ 202206 := by omega
  have hfits := (counts_le_iff _).2 hmag
  refine ⟨_, (encodeCurrent_eq_ok_iff ma _).2 ⟨hmag, rfl⟩, ?_, lowByte_toNat _, rfl, rfl⟩
  calc (highByte (counts ma.toInt.natAbs)).toNat = counts ma.toInt.natAbs / 256 % 256 := highByte_toNat _
    _ = counts ma.toInt.natAbs / 256 := Nat.mod_eq_of_lt (by omega)

/-- Settles O16. -/
theorem encodeSignLaw : Obligations.EncodeSignLaw := by
  intro ma p h
  obtain ⟨-, rfl⟩ := (encodeCurrent_eq_ok_iff ma p).1 h
  exact signByte_eq_one_iff ma

/-- Settles O17: a positive operand and its negative have one magnitude, so one payload but for the sign byte. -/
theorem encodeMonotoneAndSymmetric : Obligations.EncodeMonotoneAndSymmetric := by
  refine ⟨fun _ _ => counts_mono, counts_succ_le, fun ma p hpos h => ?_⟩
  obtain ⟨hmag, rfl⟩ := (encodeCurrent_eq_ok_iff ma p).1 h
  have hneg := toInt_neg_of_pos hpos
  have hnegMag : (-ma).toInt.natAbs = ma.toInt.natAbs := by rw [hneg, Int.natAbs_neg]
  have hnegSign : signByte (-ma) = 0x00 := signByte_of_neg (by omega)
  refine ⟨(encodeCurrent_eq_ok_iff _ _).2 ⟨hnegMag ▸ hmag, ?_⟩, signByte_of_nonneg (Int.le_of_lt hpos)⟩
  rw [hnegMag, hnegSign]
  rfl

/-- R108: a non-negative operand in range, named by its milliamps. -/
theorem encodeCurrent_ofNat {m : Nat} (h : m ≤ 202206) :
    encodeCurrent (BitVec.ofNat 32 m) = .ok (payloadOf (counts m) 0x01) := by
  have htoInt := toInt_ofNat_of_inRange h
  rw [encodeCurrent_eq_ok_iff, signByte_of_nonneg (by omega), htoInt, Int.natAbs_natCast]
  exact ⟨h, rfl⟩

/-- Settles O18: by the operand of `counts_milliampsBelow`. -/
theorem everyCountIsEncoded : Obligations.EveryCountIsEncoded := by
  intro high low
  have hhigh := high.isLt
  have hlow := low.isLt
  refine ⟨BitVec.ofNat 32 (1950 * (256 * high.toNat + low.toNat) / 632), ?_⟩
  rw [encodeCurrent_ofNat (by omega), counts_milliampsBelow, payloadOf_bytes]

end Sys2Proof.Machine

/-! ## The FieldDecoder: the magnitude, the sign and the signed field

A Reading's signed field is its magnitude with its sign, so its bounds and its 17-bit view are facts about every
Reading; what the three bytes add is which magnitude and which sign `Decode` puts together. -/

namespace Sys2Proof.Machine

/-! ### The signed field of a Reading -/

/-- R123: the field of a Reading with the sign set. -/
@[simp] theorem fieldDmt_neg (m : BitVec 16) : fieldDmt ⟨m, true⟩ = -(m.toNat : Int) := rfl

/-- R123: the field of a Reading with the sign clear. -/
@[simp] theorem fieldDmt_pos (m : BitVec 16) : fieldDmt ⟨m, false⟩ = m.toNat := rfl

/-- R123: the field is the magnitude but for its sign. -/
theorem natAbs_fieldDmt (r : Reading) : (fieldDmt r).natAbs = r.mag.toNat := by
  obtain ⟨m, neg⟩ := r
  cases neg with
  | true => rw [fieldDmt_neg, Int.natAbs_neg, Int.natAbs_natCast]
  | false => rw [fieldDmt_pos, Int.natAbs_natCast]

/-- R123: the magnitude is a 16-bit value, so this is the range of the field. -/
theorem fieldDmt_bounds (r : Reading) : -65535 ≤ fieldDmt r ∧ fieldDmt r ≤ 65535 := by
  have habs := natAbs_fieldDmt r
  have hmag := r.mag.isLt
  omega

/-- R123: 17 bits hold every field, so the view loses nothing. -/
theorem fieldDmtBits_toInt (r : Reading) : (fieldDmtBits r).toInt = fieldDmt r := by
  obtain ⟨hlow, hhigh⟩ := fieldDmt_bounds r
  rw [fieldDmtBits, BitVec.toInt_ofInt, Int.bmod_eq_of_le] <;> omega

/-! ### The bytes -/

/-- R121: the magnitude as a number. -/
theorem fieldMagnitude_toNat (b1 b2 : Byte) : (fieldMagnitude b1 b2).toNat = b1.toNat * 256 + b2.toNat :=
  append_toNat b1 b2

/-- R122: the third bytes that set the sign. -/
theorem fieldNegative_iff (b3 : Byte) : fieldNegative b3 = true ↔ b3 = 0x01 := beq_iff_eq

/-- R121 to R123: the field `Decode` gives, by the third byte. -/
theorem fieldDmt_fieldDecode (b1 b2 b3 : Byte) :
    fieldDmt (fieldDecode b1 b2 b3) =
      if b3 = 0x01 then -((b1.toNat * 256 + b2.toNat : Nat) : Int) else ((b1.toNat * 256 + b2.toNat : Nat) : Int) := by
  rw [← fieldMagnitude_toNat, fieldDecode]
  by_cases hb3 : b3 = 0x01
  · rw [(fieldNegative_iff b3).2 hb3, fieldDmt_neg, if_pos hb3]
  · rw [Bool.eq_false_iff.2 (mt (fieldNegative_iff b3).1 hb3), fieldDmt_pos, if_neg hb3]

/-! ### The statements -/

/-- Settles O19. -/
theorem fieldDecodeValues : Obligations.FieldDecodeValues := by
  intro b1 b2 b3
  obtain ⟨hlow, hhigh⟩ := fieldDmt_bounds (fieldDecode b1 b2 b3)
  exact ⟨fieldMagnitude_toNat b1 b2, fieldNegative_iff b3, fieldDmt_fieldDecode b1 b2 b3, hlow, hhigh,
    fieldDmtBits_toInt _⟩

/-- Settles O20: the magnitude does not look at the third byte, and only the sign does. -/
theorem fieldDecodeSignFlip : Obligations.FieldDecodeSignFlip := by
  intro b1 b2
  have hset : fieldDecode b1 b2 0x01 = ⟨fieldMagnitude b1 b2, true⟩ := rfl
  have hclear : fieldDecode b1 b2 0x00 = ⟨fieldMagnitude b1 b2, false⟩ := rfl
  rw [hset, hclear, fieldDmt_neg, fieldDmt_pos]
  exact ⟨rfl, rfl, rfl⟩

end Sys2Proof.Machine

/-! ## The step kinds, phase by phase

`microStep_of_exec` says what an execution that answers can have done; this part says when a step kind answers, and
with which state: an equation for each kind and phase, and the two faults where there is no micro-step. -/

namespace Sys2Proof.Machine

/-! ### Each micro-step, executed -/

section Executed

variable {s : State}

/-- R137: the write of an ACK. -/
theorem exec_ack_write (b : Byte) (hb : s.busy = true) (hp : s.phase = .w) :
    exec (.ack b) s = .next (s.writeThenRead b) := by
  simp only [exec, execAck, hb, hp]

/-- R137: the read of an ACK. -/
theorem exec_ack_read (b : Byte) (hb : s.busy = true) (hp : s.phase = .r) :
    exec (.ack b) s = .next s.readAndDiscard := by
  simp only [exec, execAck, hb, hp]

/-- R138: the write of an ACKP. -/
theorem exec_ackp_write (k : Fin 4) (hb : s.busy = true) (hp : s.phase = .w) :
    exec (.ackp k) s = .next (s.writeThenRead (s.payload k)) := by
  simp only [exec, execAckp, hb, hp]

/-- R138: the read of an ACKP. -/
theorem exec_ackp_read (k : Fin 4) (hb : s.busy = true) (hp : s.phase = .r) :
    exec (.ackp k) s = .next s.readAndDiscard := by
  simp only [exec, execAckp, hb, hp]

/-- R139: the write of a POLL. -/
theorem exec_poll_write (b e : Byte) (hb : s.busy = true) (hp : s.phase = .w) :
    exec (.poll b e) s = .next (s.pollWrite b) := by
  simp only [exec, execPoll, hb, hp]

/-- R140: a read of a POLL. -/
theorem exec_poll_read (b e : Byte) (hb : s.busy = true) (hp : s.phase = .r) :
    exec (.poll b e) s = .next (s.pollRead e) := by
  simp only [exec, execPoll, hb, hp]

/-- R141: the write of a WRITE. -/
theorem exec_write_write (b : Byte) (hb : s.busy = true) (hp : s.phase = .w) :
    exec (.write b) s = .next (s.writeOnly b) := by
  simp only [exec, execWrite, hb, hp]

/-- R142: the read of a CAPTURE. -/
theorem exec_capture_read (k : Fin 3) (hb : s.busy = true) (hp : s.phase = .r) :
    exec (.capture k) s = .next (s.captureRead k) := by
  simp only [exec, execCapture, hb, hp]

/-- R143: the echo of a CAPTURE. -/
theorem exec_capture_echo (k : Fin 3) (hb : s.busy = true) (hp : s.phase = .e) :
    exec (.capture k) s = .next (s.captureEcho k) := by
  simp only [exec, execCapture, hb, hp]

/-- R136: with no script running a step kind has no micro-step. -/
theorem exec_of_idle {i : Instr} (hi : i.isStep = true) (hb : s.busy = false) :
    exec i s = .fault .sequencerIdle := by
  cases i with
  | ack b => simp only [exec, execAck, hb]
  | ackp k => simp only [exec, execAckp, hb]
  | poll b e => simp only [exec, execPoll, hb]
  | write b => simp only [exec, execWrite, hb]
  | capture k => simp only [exec, execCapture, hb]
  | encode _ | decode _ _ _ _ | setCurrent _ | stopQuery _ => cases hi

/-- R136: in a phase its kind does not have, a step has no micro-step. -/
theorem exec_of_not_phaseFits {i : Instr} (hi : i.isStep = true) (hb : s.busy = true)
    (hf : phaseFits i s.phase = false) : exec i s = .fault .noMicroStep := by
  cases i with
  | ack b =>
    cases hp : s.phase with
    | e => simp only [exec, execAck, hb, hp]
    | w | r => simp [hp, phaseFits] at hf
  | ackp k =>
    cases hp : s.phase with
    | e => simp only [exec, execAckp, hb, hp]
    | w | r => simp [hp, phaseFits] at hf
  | poll b e =>
    cases hp : s.phase with
    | e => simp only [exec, execPoll, hb, hp]
    | w | r => simp [hp, phaseFits] at hf
  | write b =>
    cases hp : s.phase with
    | r | e => simp only [exec, execWrite, hb, hp]
    | w => simp [hp, phaseFits] at hf
  | capture k =>
    cases hp : s.phase with
    | w => simp only [exec, execCapture, hb, hp]
    | r | e => simp [hp, phaseFits] at hf
  | encode _ | decode _ _ _ _ | setCurrent _ | stopQuery _ => cases hi

/-- R136: in a phase its kind has, a step of a running script makes its micro-step. -/
theorem exec_of_phaseFits {i : Instr} (hb : s.busy = true) (hf : phaseFits i s.phase = true) :
    ∃ t, exec i s = .next t := by
  cases hp : s.phase with
  | w =>
    cases i with
    | ack b => exact ⟨_, exec_ack_write b hb hp⟩
    | ackp k => exact ⟨_, exec_ackp_write k hb hp⟩
    | poll b e => exact ⟨_, exec_poll_write b e hb hp⟩
    | write b => exact ⟨_, exec_write_write b hb hp⟩
    | _ => simp [hp, phaseFits] at hf
  | r =>
    cases i with
    | ack b => exact ⟨_, exec_ack_read b hb hp⟩
    | ackp k => exact ⟨_, exec_ackp_read k hb hp⟩
    | poll b e => exact ⟨_, exec_poll_read b e hb hp⟩
    | capture k => exact ⟨_, exec_capture_read k hb hp⟩
    | _ => simp [hp, phaseFits] at hf
  | e =>
    cases i with
    | capture k => exact ⟨_, exec_capture_echo k hb hp⟩
    | _ => simp [hp, phaseFits] at hf

end Executed

/-! ### What a POLL and a CAPTURE do with an answer -/

/-- R140, R144: the answers that end a POLL: a timeout, the expected byte, or any byte once the bound is reached. -/
def State.pollEnds (s : State) (e : Byte) (a : Answer) : Prop :=
  a = .timeout ∨ a = .byte e ∨ ∃ n, s.pollMaxReads = some n ∧ n.n ≤ s.pollCnt + 1

/-- R144: when the bound of a POLL is reached. -/
theorem pollBoundReached_iff (bound : Option PollBound) (cnt : Nat) :
    pollBoundReached bound cnt = true ↔ ∃ n, bound = some n ∧ n.n ≤ cnt + 1 := by
  cases bound <;> simp

/-- R140: an answer that ends a POLL is an `Advance()`. -/
theorem State.pollAnswer_of_ends {s : State} {e : Byte} {a : Answer} (h : s.pollEnds e a) :
    s.pollAnswer e a = s.advance := by
  rw [State.pollEnds, ← pollBoundReached_iff] at h
  cases a with
  | timeout => rfl
  | byte v => by_cases hv : v = e <;> simp_all [State.pollAnswer]

/-- R140: an answer that does not end a POLL is discarded and counted. -/
theorem State.pollAnswer_of_not_ends {s : State} {e : Byte} {a : Answer} (h : ¬s.pollEnds e a) :
    s.pollAnswer e a = s.setPollCnt (s.pollCnt + 1) := by
  rw [State.pollEnds, ← pollBoundReached_iff] at h
  cases a <;> simp_all [State.pollAnswer]

/-- R28: where the poll counter exists, a write to it takes effect. -/
theorem pollCntAfter_of_ne_none {bound : Option PollBound} (h : bound ≠ none) (old n : Nat) :
    pollCntAfter bound old n = n := by
  cases bound with
  | none => exact absurd rfl h
  | some b => rfl

/-! ### The statements about one step kind -/

/-- Settles O27. -/
theorem ackResult : Obligations.AckResult := by
  refine fun b s hb => ⟨fun hp => exec_ack_write b hb hp, fun hp => ?_⟩
  obtain ⟨a, ha, heq⟩ := s.readAndDiscard_eq
  exact ⟨a, ha, heq ▸ exec_ack_read b hb hp⟩

/-- Settles O28. -/
theorem ackpResult : Obligations.AckpResult := by
  refine fun k s hb => ⟨fun hp => exec_ackp_write k hb hp, fun hp => ?_⟩
  obtain ⟨a, ha, heq⟩ := s.readAndDiscard_eq
  exact ⟨a, ha, heq ▸ exec_ackp_read k hb hp⟩

/-- Settles O29. -/
theorem pollWriteResult : Obligations.PollWriteResult := fun b e _ hb hp =>
  ⟨_, fun hbound => pollCntAfter_of_ne_none hbound _ 0, exec_poll_write b e hb hp⟩

/-- Settles O30. -/
theorem pollReadResult : Obligations.PollReadResult := by
  intro b e s hb hp
  obtain ⟨a, ha, htx⟩ := s.txRead_eq_consume
  have hexec : exec (.poll b e) s = .next ((s.consume a).pollAnswer e a) := by
    rw [exec_poll_read b e hb hp, State.pollRead, htx]
  refine ⟨a, ha, fun hends => ?_, fun hstays => ?_⟩
  · rw [hexec, State.pollAnswer_of_ends (s := s.consume a) hends]
  · rw [hexec, State.pollAnswer_of_not_ends (s := s.consume a) hstays]
    exact ⟨_, fun hbound => pollCntAfter_of_ne_none hbound _ (s.pollCnt + 1), rfl⟩

/-- Settles O31. -/
theorem writeResult : Obligations.WriteResult := fun b _ hb hp => exec_write_write b hb hp

/-- Settles O32. -/
theorem captureReadResult : Obligations.CaptureReadResult := by
  intro k s hb hp
  obtain ⟨a, ha, htx⟩ := s.txRead_eq_consume
  have hexec : exec (.capture k) s = .next ((s.consume a).captureAnswer k a) := by
    rw [exec_capture_read k hb hp, State.captureRead, htx]
  refine ⟨a, ha, fun htimeout => ?_, fun v hbyte => ?_⟩
  · subst htimeout
    exact hexec
  · subst hbyte
    exact hexec

/-- Settles O33. -/
theorem captureEchoResult : Obligations.CaptureEchoResult := fun k _ hb hp => exec_capture_echo k hb hp

/-- Settles O36. -/
theorem stepKindsStopWithoutAMicroStep : Obligations.StepKindsStopWithoutAMicroStep :=
  fun _ _ hi => ⟨exec_of_idle hi, exec_of_not_phaseFits hi⟩

/-! ### `Advance()` and `Finish()` -/

/-- R146: the phase a step is entered with, by its kind. -/
def stepEntryPhase : Instr → Phase
  | .capture _ => .r
  | _ => .w

/-- R146: the entry phase of a ROM entry is that of the step it decodes to. -/
theorem entryPhase_of_decode {w : StepWord} {i : Instr} (h : decodeStepWord w = .instr i) :
    entryPhase (some w) = stepEntryPhase i := by
  simp only [entryPhase, Option.map_some, h]
  cases i <;> rfl

/-- Settles O34. -/
theorem advanceEntersTheNextStep : Obligations.AdvanceEntersTheNextStep := by
  refine ⟨fun s w i hlt hw hi => ?_, fun s hlast => State.advance_of_last (Fin.ext hlast)⟩
  have hne : s.step ≠ 10 := fun hlast => absurd hlt (by rw [hlast]; decide)
  refine ⟨s.step + 1, State.step_add_one_val hne, ?_⟩
  rw [State.advance_of_ne hne, hw, entryPhase_of_decode hi]
  cases i <;> rfl

/-- R121: the magnitude from the number of its two bytes. -/
theorem fieldMagnitude_eq_ofNat (b1 b2 : Byte) :
    fieldMagnitude b1 b2 = BitVec.ofNat 16 (b1.toNat * 256 + b2.toNat) := by
  rw [← fieldMagnitude_toNat, BitVec.ofNat_toNat, BitVec.setWidth_eq]

/-- R122: the sign as a decision. -/
theorem fieldNegative_eq_decide (b3 : Byte) : fieldNegative b3 = decide (b3 = 0x01) := by
  rw [Bool.eq_iff_iff, fieldNegative_iff, decide_eq_true_iff]

/-- Settles O35. -/
theorem finishResult : Obligations.FinishResult := by
  refine fun s => ⟨fun hstart => State.finish_of_ne_stop (by simp [hstart]), fun hstop => ?_⟩
  rw [State.finish_of_stop hstop, fieldDecode, fieldMagnitude_eq_ofNat, fieldNegative_eq_decide]

end Sys2Proof.Machine

/-! ## What a micro-step does to each register, and to the Transport

Consequences of `MicroStep`, one register or group of registers at a time. -/

namespace Sys2Proof.Machine

section Fields

variable (s : State)

@[simp] theorem State.consume_port (a : Answer) : (s.consume a).port = s.port := rfl
@[simp] theorem State.consume_resetReq (a : Answer) : (s.consume a).resetReq = s.resetReq := rfl
@[simp] theorem State.consume_trace (a : Answer) : (s.consume a).trace = s.trace ++ [answerEvent a] := rfl
@[simp] theorem State.consume_answers (a : Answer) : (s.consume a).answers = s.answers.tail := rfl

@[simp] theorem State.advance_cap : s.advance.cap = s.cap := by simp [State.advance_keeps s]
@[simp] theorem State.advance_capValid : s.advance.capValid = s.capValid := by simp [State.advance_keeps s]
@[simp] theorem State.advance_trace : s.advance.trace = s.trace := by simp [State.advance_keeps s]
@[simp] theorem State.advance_port : s.advance.port = s.port := by simp [State.advance_keeps s]
@[simp] theorem State.advance_resetReq : s.advance.resetReq = s.resetReq := by simp [State.advance_keeps s]
@[simp] theorem State.advance_answers : s.advance.answers = s.answers := by simp [State.advance_keeps s]
@[simp] theorem State.advance_draws : s.advance.draws = s.draws := by simp [State.advance_keeps s]

/-- R147: only the `Finish()` of the stop script writes the result registers. -/
theorem State.advance_reading (h : s.script ≠ .stop ∨ s.step ≠ 10) :
    s.advance.resMag = s.resMag ∧ s.advance.resNeg = s.resNeg := by
  by_cases hlast : s.step = 10
  · rw [State.advance_of_last hlast, State.finish_of_ne_stop (h.resolve_right (not_not_intro hlast))]
    exact ⟨rfl, rfl⟩
  · rw [State.advance_of_ne hlast]
    exact ⟨rfl, rfl⟩

end Fields

namespace MicroStep

variable {i : Instr} {s t : State}

/-- R136, R164: a micro-step does not touch the command port or the reset input. -/
theorem inputs (h : MicroStep i s t) : t.port = s.port ∧ t.resetReq = s.resetReq := by
  cases h <;> simp [State.writeThenRead, State.pollWrite, State.writeOnly, State.captureEcho, State.abort]

/-- R51, R52: a micro-step is one primitive: a read in phase R, which takes one answer, and otherwise a write, which
takes none. -/
theorem primitive (h : MicroStep i s t) :
    (s.phase = .r ∧ ∃ a, s.mayAnswer a ∧ t.trace = s.trace ++ [answerEvent a] ∧ t.answers = s.answers.tail) ∨
      (s.phase ≠ .r ∧ ∃ b, t.trace = s.trace ++ [.wrote b] ∧ t.answers = s.answers ∧ t.draws = s.draws) := by
  cases h with
  | ackWrite b hp | pollWrite b _ hp => exact .inr ⟨by simp [hp], b, rfl, rfl, rfl⟩
  | ackpWrite k hp => exact .inr ⟨by simp [hp], s.payload k, rfl, rfl, rfl⟩
  | write b hp => exact .inr ⟨by simp [hp], b, by simp [State.writeOnly]⟩
  | captureEcho k hp => exact .inr ⟨by simp [hp], s.captured k, by simp [State.captureEcho]⟩
  | ackRead _ a hp ha | ackpRead _ a hp ha | pollEnd _ _ a hp ha => exact .inl ⟨hp, a, ha, by simp⟩
  | pollStay _ _ v hp ha | captureByte _ v hp ha => exact .inl ⟨hp, .byte v, ha, rfl, rfl⟩
  | captureTimeout _ hp ha => exact .inl ⟨hp, .timeout, ha, rfl, rfl⟩

/-- R22, R23: only a CAPTURE writes the capture registers and their flags. -/
theorem captures_of_not_capture (h : MicroStep i s t) (hi : ∀ k, i ≠ .capture k) :
    t.cap = s.cap ∧ t.capValid = s.capValid := by
  cases h with
  | captureByte k | captureTimeout k | captureEcho k => exact absurd rfl (hi k)
  | ackRead | ackpRead | pollEnd | write => simp [State.writeOnly]
  | ackWrite | ackpWrite | pollWrite | pollStay => exact ⟨rfl, rfl⟩

/-- R142: a CAPTURE writes no capture register but its own. -/
theorem captures_of_ne {k j : Fin 3} (h : MicroStep (.capture k) s t) (hj : j ≠ k) :
    t.cap[j] = s.cap[j] ∧ t.capValid[j] = s.capValid[j] := by
  have hne : k.val ≠ j.val := fun hval => hj (Fin.ext hval.symm)
  cases h with
  | captureByte => exact ⟨Vector.getElem_set_ne k.isLt j.isLt hne, Vector.getElem_set_ne k.isLt j.isLt hne⟩
  | captureTimeout => exact ⟨rfl, rfl⟩
  | captureEcho => simp [State.captureEcho]

/-- R28: only a POLL writes the poll counter. -/
theorem pollCnt_of_not_poll (h : MicroStep i s t) (hi : ∀ b e, i ≠ .poll b e) : t.pollCnt = s.pollCnt := by
  cases h with
  | pollWrite b e | pollEnd b e | pollStay b e => exact absurd rfl (hi b e)
  | ackRead | ackpRead | write | captureEcho => simp [State.writeOnly, State.captureEcho]
  | ackWrite | ackpWrite | captureByte | captureTimeout => rfl

/-- R24: only the end of the stop script writes the result registers. -/
theorem reading (h : MicroStep i s t) (hs : s.script ≠ .stop ∨ s.step ≠ 10) :
    t.resMag = s.resMag ∧ t.resNeg = s.resNeg := by
  cases h with
  | ackRead _ a | ackpRead _ a | pollEnd _ _ a => exact (s.consume a).advance_reading hs
  | write b => exact (s.txWrite b).advance_reading hs
  | captureEcho k => exact (s.txWrite (s.captured k)).advance_reading hs
  | ackWrite | ackpWrite | pollWrite | pollStay | captureByte | captureTimeout => exact ⟨rfl, rfl⟩

end MicroStep

/-- Settles O37: the frames of `MicroStep` together. -/
theorem stepKindFrame : Obligations.StepKindFrame := by
  intro i s t hi h
  obtain ⟨-, hm⟩ := microStep_of_exec hi h
  obtain ⟨hpay, hrom, hbound⟩ := hm.keeps
  obtain ⟨hport, hreset⟩ := hm.inputs
  refine ⟨⟨hpay, hrom, hbound, hport, hreset⟩, hm.captures_of_not_capture, ?_, hm.pollCnt_of_not_poll, ?_,
    hm.reading, ?_⟩
  · rintro k rfl j hj
    exact hm.captures_of_ne hj
  · intro hrun
    obtain ⟨hstatus, -, -, hscript⟩ := hm.results_of_busy ((State.busy_iff t).2 hrun)
    exact ⟨hscript, hstatus⟩
  · intro hp
    rcases hm.primitive with ⟨hr, -⟩ | ⟨-, b, -, hanswers, hdraws⟩
    · exact absurd hr hp
    · exact ⟨hanswers, hdraws⟩

/-! ### The step of a legal block -/

/-- R135: a running script executes the ROM entry of its current step. -/
theorem step_of_word {s : State} {w : StepWord} {i : Instr} (hr : s.resetReq = false) (hb : s.busy = true)
    (hw : s.rom.word s.script s.step.val = some w) (hi : decodeStepWord w = .instr i) : step s = exec i s := by
  simp [step, fetch, hr, hb, fetchStep_of_word hw hi]

/-- Settles O8. -/
theorem stepRunsTheFetchedStep : Obligations.StepRunsTheFetchedStep :=
  fun _ _ _ hr hb hw hi => step_of_word hr hb hw hi

/-- R135: the current step of a script stands in the ROM. -/
theorem State.word_of_currentStep {s : State} {i : Instr} (h : s.currentStep = some i) :
    ∃ w, s.rom.word s.script s.step.val = some w ∧ decodeStepWord w = .instr i := by
  cases hw : s.rom.word s.script s.step.val with
  | none => simp [State.currentStep, hw] at h
  | some w =>
    refine ⟨w, rfl, ?_⟩
    cases hd : decodeStepWord w <;> simp_all [State.currentStep, Decoded.toOption]

/-- R26, R135: a block that stands at a step is running. -/
theorem State.busy_of_currentStep {s : State} {i : Instr} (h : s.currentStep = some i) : s.busy = true := by
  rw [State.busy_iff]
  intro hidle
  simp [State.currentStep, hidle, Rom.word] at h

/-- R135, R136: with no reset asserted, a running script executes the step it is at. -/
theorem step_of_currentStep {s : State} {i : Instr} (hr : s.resetReq = false) (h : s.currentStep = some i) :
    step s = exec i s := by
  obtain ⟨w, hw, hi⟩ := State.word_of_currentStep h
  exact step_of_word hr (State.busy_of_currentStep h) hw hi

/-- R136: a legal running block makes a micro-step of the step it is at. -/
theorem running_microStep {s : State} (h : s.Legal) (hr : s.resetReq = false)
    (hb : s.busy = true) : ∃ i t, s.currentStep = some i ∧ step s = .next t ∧ MicroStep i s t := by
  obtain ⟨i, hi, hfits⟩ := h.running ((State.busy_iff s).1 hb)
  obtain ⟨w, -, hw⟩ := State.word_of_currentStep hi
  obtain ⟨t, ht⟩ := exec_of_phaseFits hb hfits
  exact ⟨i, t, hi, (step_of_currentStep hr hi).trans ht, (microStep_of_exec (isStep_of_decodeStepWord hw) ht).2⟩

/-- R160 to R164: a command always has a next state. -/
theorem exec_of_command {i : Instr} (hi : i.isStep = false) (s : State) : ∃ t, exec i s = .next t := by
  cases i with
  | encode _ | decode _ _ _ _ | setCurrent _ | stopQuery _ => exact ⟨_, rfl⟩
  | ack _ | ackp _ | poll _ _ | write _ | capture _ => cases hi

/-- R164 to R166: an idle block always has a next state. -/
theorem step_of_idle {s : State} (hr : s.resetReq = false) (hb : s.busy = false) : ∃ t, step s = .next t := by
  cases hp : s.port with
  | nil => exact ⟨s, by simp [step, fetch, hr, hb, fetchCommand_of_nil hp]⟩
  | cons w rest =>
    cases hi : decodeCmdWord w with
    | reject why => exact ⟨_, by simp [step, fetch, hr, hb, fetchCommand_of_reserved hp hi]; rfl⟩
    | instr i =>
      rw [step_of_command hr hb hp hi]
      exact exec_of_command (isStep_of_decodeCmdWord hi) _

/-- Settles O40: by what the block is about to do. -/
theorem legalStatesAlwaysStep : Obligations.LegalStatesAlwaysStep := by
  intro s h
  rcases fetch_cases s with ⟨-, hf⟩ | ⟨hr, hb, -⟩ | ⟨hr, hb, -⟩
  · exact ⟨s.softReset, by rw [step, hf]⟩
  · obtain ⟨i, t, -, hstep, -⟩ := running_microStep h hr hb
    exact ⟨t, hstep⟩
  · exact step_of_idle hr hb

/-- Settles O41. -/
theorem onePrimitivePerMicroStep : Obligations.OnePrimitivePerMicroStep := by
  intro s h hr hb
  obtain ⟨i, t, -, hstep, hm⟩ := running_microStep h hr hb
  exact ⟨t, hstep, hm.primitive⟩

/-! ### How a script ends -/

/-- R77, R78: the last step of both scripts is a POLL. -/
theorem romStep_ten {sc : Script} (hsc : sc ≠ .idle) : ∃ b, romStep sc 10 = some (.poll b 0x12) := by
  cases sc with
  | idle => exact absurd rfl hsc
  | start => exact ⟨0x00, by decide⟩
  | stop => exact ⟨0x82, by decide⟩

/-- R77: the start script captures nothing. -/
theorem romStep_start_ne_capture (k : Fin 11) (i : Fin 3) : romStep .start k.val ≠ some (.capture i) := by
  revert k i
  decide

/-- R77, R78: where a legal block stands at a CAPTURE. -/
theorem State.Legal.at_capture {s : State} (h : s.Legal) {k : Fin 3} (hi : s.currentStep = some (.capture k)) :
    s.script = .stop ∧ s.step.val = 4 + k.val := by
  have hb := (State.busy_iff s).1 (State.busy_of_currentStep hi)
  rw [State.currentStep_eq_romStep _ h.rom] at hi
  cases hsc : s.script with
  | idle => exact absurd hsc hb
  | start => exact absurd (hsc ▸ hi) (romStep_start_ne_capture s.step k)
  | stop => exact ⟨rfl, (romStep_stop_capture_iff s.step k).1 (hsc ▸ hi)⟩

/-- R147: an `Advance()` that leaves the block idle was that of step 10. -/
theorem State.step_eq_ten_of_advance_idle {s : State} (hb : s.busy = true) (h : s.advance.busy = false) :
    s.step = 10 := by
  refine Decidable.byContradiction fun hne => ?_
  have hrun : s.advance.busy = s.busy := by
    rw [State.advance_of_ne hne]
    rfl
  simp [hrun, hb] at h

/-- R149, R204, R208: the two micro-steps that end a script: the read that ends the POLL at step 10, and a timeout of
a CAPTURE. -/
theorem State.Legal.micro_ends {s t : State} {i : Instr} (h : s.Legal) (hi : s.currentStep = some i)
    (hm : MicroStep i s t) (ht : t.busy = false) :
    (s.step = 10 ∧ s.phase = .r ∧ (∃ b e, i = .poll b e) ∧ ∃ a, t = (s.consume a).finish) ∨
      ∃ k, i = .capture k ∧ s.phase = .r ∧ t = (s.consume .timeout).abort k := by
  have hb := State.busy_of_currentStep hi
  have hpoll : s.step = 10 → ∃ b, i = .poll b 0x12 := fun hten => by
    obtain ⟨b, hb10⟩ := romStep_ten ((State.busy_iff s).1 hb)
    rw [State.currentStep_eq_romStep _ h.rom, hten] at hi
    exact ⟨b, Option.some.inj (hi.symm.trans hb10)⟩
  have hrun : ∀ u : State, u.script = s.script → u.busy = false → False := fun u hsc hu => by
    rw [State.not_busy_iff, hsc, ← State.not_busy_iff, hb] at hu
    cases hu
  cases hm with
  | ackWrite | ackpWrite | pollWrite | pollStay | captureByte => exact (hrun _ rfl ht).elim
  | pollEnd b e a hp =>
    have hten : s.step = 10 := State.step_eq_ten_of_advance_idle (s := s.consume a) hb ht
    exact .inl ⟨hten, hp, ⟨b, e, rfl⟩, a, State.advance_of_last (s := s.consume a) hten⟩
  | captureTimeout k hp => exact .inr ⟨k, rfl, hp, rfl⟩
  | ackRead _ a | ackpRead _ a =>
    obtain ⟨b, hne⟩ := hpoll (State.step_eq_ten_of_advance_idle (s := s.consume a) hb ht)
    cases hne
  | write b =>
    obtain ⟨b, hne⟩ := hpoll (State.step_eq_ten_of_advance_idle (s := s.txWrite b) hb ht)
    cases hne
  | captureEcho k =>
    obtain ⟨b, hne⟩ := hpoll (State.step_eq_ten_of_advance_idle (s := s.txWrite (s.captured k)) hb ht)
    cases hne

/-- R147: every `Finish()` sets `OK`. -/
@[simp] theorem State.finish_status (s : State) : s.finish.status = .ok := rfl

/-- R23, R208: at the read of CAPTURE `k` the flags set are those of the captures before it. -/
theorem State.Legal.capValid_at_capture {s : State} (h : s.Legal) {k : Fin 3}
    (hi : s.currentStep = some (.capture k)) (hp : s.phase = .r) (j : Fin 3) :
    s.capValid[j] = decide (j.val < k.val) := by
  obtain ⟨hsc, hstep⟩ := h.at_capture hi
  rw [h.valid hsc j, Bool.eq_iff_iff, State.hasCaptured_iff, hstep, hp]
  simp

/-- Settles O45. -/
theorem scriptEndsAtStepTenOrAtACaptureTimeout : Obligations.ScriptEndsAtStepTenOrAtACaptureTimeout := by
  intro s t h hr hb hstep ht
  obtain ⟨i, t', hi, hstep', hm⟩ := running_microStep h hr hb
  cases hstep.symm.trans hstep'
  rcases h.micro_ends hi hm ht with ⟨hten, -, -, a, rfl⟩ | ⟨k, rfl, hp, rfl⟩
  · exact .inl ⟨hten, State.finish_status _⟩
  · obtain ⟨hsc, hstep⟩ := h.at_capture hi
    exact .inr ⟨k, hsc, hstep, rfl, rfl, rfl, rfl, rfl, h.capValid_at_capture hi hp⟩

end Sys2Proof.Machine

/-! ## Runs of a bounded script

With a bound a POLL reads at most `n` times. A run of non-matching answers reaches the bound by induction on the
answers; and every micro-step of a script lowers the number of micro-steps that are left at most. -/

namespace Sys2Proof.Machine

/-- A run of one step more. -/
theorem run_succ {s t : State} (h : step s = .next t) (k : Nat) :
    Sys2Proof.core.run (k + 1) s = Sys2Proof.core.run k t := by
  simp only [Host.Core.run, Sys2Proof.core, h]

/-! ### A POLL up to its bound -/

/-- R66: a read that takes a listed answer. -/
theorem State.consume_of_answers {s : State} {a : Answer} {rest : List Answer} (h : s.answers = a :: rest) :
    s.consume a = { s with answers := rest, trace := s.trace ++ [answerEvent a] } := by
  simp [State.consume, h]

/-- R140: the step of a script that reads a listed answer in a POLL. -/
theorem step_of_polling {s : State} {b e : Byte} {a : Answer} {rest : List Answer} (hr : s.resetReq = false)
    (hi : s.currentStep = some (.poll b e)) (hp : s.phase = .r) (ha : s.answers = a :: rest) :
    step s = .next ((s.consume a).pollAnswer e a) := by
  rw [step_of_currentStep hr hi, exec_poll_read b e (State.busy_of_currentStep hi) hp, State.pollRead,
    State.txRead_of_answers ha]

/-- R144: a POLL whose counter is `vs.length` short of its bound ends at the last of the other bytes `vs`. -/
theorem run_poll_to_bound {b e : Byte} {n : PollBound} {vs : List Byte} {rest : List Answer} {s : State}
    (hr : s.resetReq = false) (hi : s.currentStep = some (.poll b e)) (hp : s.phase = .r)
    (hn : s.pollMaxReads = some n) (hne : vs ≠ []) (hcnt : s.pollCnt + vs.length = n.n) (hvs : ∀ v ∈ vs, v ≠ e)
    (ha : s.answers = vs.map Answer.byte ++ rest) :
    Sys2Proof.core.run vs.length s = .next ({ s with
      answers := rest, trace := s.trace ++ vs.map Event.read, pollCnt := n.n - 1 } : State).advance := by
  induction vs generalizing s with
  | nil => exact absurd rfl hne
  | cons v vs ih =>
    rw [List.length_cons] at hcnt
    have hstep := step_of_polling hr hi hp ha
    have hread := State.consume_of_answers ha
    have hv : v ≠ e := hvs v List.mem_cons_self
    cases vs with
    | nil =>
      have hends : (s.consume (.byte v)).pollEnds e (.byte v) := .inr (.inr ⟨n, hn, Nat.le_of_eq hcnt.symm⟩)
      have hlast : s.pollCnt = n.n - 1 := Nat.eq_sub_of_add_eq hcnt
      rw [State.pollAnswer_of_ends hends, hread] at hstep
      rw [List.length_singleton, run_succ hstep, ← hlast]
      rfl
    | cons w ws =>
      have hstays : ¬(s.consume (.byte v)).pollEnds e (.byte v) := by
        rw [List.length_cons] at hcnt
        simp only [State.pollEnds, State.consume_pollMaxReads, State.consume_pollCnt, hn]
        simp only [reduceCtorEq, Answer.byte.injEq, hv, Option.some.injEq, exists_eq_left', false_or]
        omega
      rw [State.pollAnswer_of_not_ends hstays] at hstep
      have hbump : ((s.consume (.byte v)).setPollCnt (s.pollCnt + 1)).pollCnt = s.pollCnt + 1 := by simp [hn]
      have hrun := ih (s := (s.consume (.byte v)).setPollCnt (s.pollCnt + 1)) hr hi hp hn nofun
        (by rw [hbump, ← hcnt]; omega) (fun x hx => hvs x (List.mem_cons_of_mem v hx)) (by simp [ha])
      refine (run_succ hstep _).trans (hrun.trans ?_)
      simp [hread, answerEvent]

/-- Settles O48. -/
theorem boundedPollEndsAtItsBound : Obligations.BoundedPollEndsAtItsBound := by
  intro s b e n vs rest hr hi hp hn hcnt hvs hlen ha
  have hne : vs ≠ [] := List.ne_nil_of_length_pos (hlen ▸ n.pos)
  rw [← hlen, run_poll_to_bound hr hi hp hn hne (by rw [hcnt, Nat.zero_add, hlen]) hvs ha, hlen]

/-! ### The micro-steps that are left -/

/-- R137 to R144: how many micro-steps the step `i` makes at most from a phase on, with the bound `n` and `cnt` bytes
discarded. -/
def microStepsFrom (n cnt : Nat) : Instr → Phase → Nat
  | .ack _, .w => 2
  | .ackp _, .w => 2
  | .poll _ _, .w => n + 1
  | .poll _ _, _ => n - cnt
  | .capture _, .r => 2
  | _, _ => 1

/-- R150: how many micro-steps the step `i` makes at most. -/
def stepCost (n : Nat) (i : Instr) : Nat := microStepsFrom n 0 i (stepEntryPhase i)

/-- R150: how many micro-steps the last `m` steps of a script make at most. -/
def lastStepsCost (n : Nat) (sc : Script) : Nat → Nat
  | 0 => 0
  | m + 1 => (romStep sc (10 - m)).elim 0 (stepCost n) + lastStepsCost n sc m

/-- R150: how many micro-steps a block makes at most before it is idle. -/
def State.microStepsLeft (n : Nat) (s : State) : Nat :=
  s.currentStep.elim 0 fun i => microStepsFrom n s.pollCnt i s.phase + lastStepsCost n s.script (10 - s.step.val)

/-- A step is entered with its whole cost ahead, whatever the poll counter holds. -/
theorem microStepsFrom_entry (n cnt : Nat) (i : Instr) : microStepsFrom n cnt i (stepEntryPhase i) = stepCost n i := by
  cases i <;> rfl

/-- No phase has more ahead than the entry phase. -/
theorem microStepsFrom_le (n cnt : Nat) (i : Instr) (p : Phase) : microStepsFrom n cnt i p ≤ stepCost n i := by
  cases i with
  | poll b e =>
    cases p with
    | w => exact Nat.le_refl _
    | r | e => exact Nat.le_succ_of_le (Nat.sub_le n cnt)
  | _ => cases p <;> simp [stepCost, stepEntryPhase, microStepsFrom]

/-- R150: a script with a bound costs at most as much as the start script, `18 + 2 n`. -/
theorem lastStepsCost_ten_le (n : Nat) (sc : Script) : lastStepsCost n sc 10 ≤ 18 + 2 * n := by
  cases sc with
  | idle => exact Nat.zero_le _
  | start =>
    have hcost : lastStepsCost n .start 10 = 2 + (2 + ((n + 1) + (2 + (2 + (2 + (2 + (2 + (2 + ((n + 1) + 0))))))))) :=
      rfl
    omega
  | stop =>
    have hcost : lastStepsCost n .stop 10 = 2 + ((n + 1) + (1 + (2 + (2 + (2 + (2 + (1 + (2 + ((n + 1) + 0))))))))) :=
      rfl
    omega

/-- More steps cost no less. -/
theorem lastStepsCost_mono (n : Nat) (sc : Script) {a b : Nat} (h : a ≤ b) :
    lastStepsCost n sc a ≤ lastStepsCost n sc b := by
  induction h with
  | refl => exact Nat.le_refl _
  | step _ ih => exact Nat.le_trans ih (Nat.le_add_left _ _)

namespace State

variable {n : Nat} {s t : State} {i : Instr}

/-- What is left at a step. -/
theorem microStepsLeft_of_currentStep (hi : s.currentStep = some i) :
    s.microStepsLeft n = microStepsFrom n s.pollCnt i s.phase + lastStepsCost n s.script (10 - s.step.val) := by
  simp [microStepsLeft, hi]

/-- Nothing is left for an idle block. -/
theorem microStepsLeft_of_idle (hb : s.busy = false) : s.microStepsLeft n = 0 := by
  cases hi : s.currentStep with
  | none => simp [microStepsLeft, hi]
  | some i => simp [busy_of_currentStep hi] at hb

/-- R135, R146: the step that `Advance()` enters. -/
theorem currentStep_advance (hrom : s.rom = Rom.contents) (hten : s.step ≠ 10) :
    s.advance.currentStep = romStep s.script (s.step.val + 1) := by
  rw [currentStep_eq_romStep _ (s.advance_rom.trans hrom), advance_of_ne hten]
  exact congrArg (romStep s.script) (step_add_one_val hten)

/-- R146: after `Advance()` the later steps are left, whole. -/
theorem microStepsLeft_advance (hrom : s.rom = Rom.contents) (hb : s.busy = true) :
    s.advance.microStepsLeft n = lastStepsCost n s.script (10 - s.step.val) := by
  by_cases hten : s.step = 10
  · rw [advance_of_last hten, microStepsLeft_of_idle s.finish_busy, hten]
    rfl
  have hval := step_add_one_val hten
  have hlt : s.step.val < 10 := by omega
  obtain ⟨i, hrs, -⟩ := romStep_fits_entryPhase ((busy_iff s).1 hb) hlt
  have hi := (currentStep_advance hrom hten).trans hrs
  obtain ⟨w, hw, hd⟩ := word_of_currentStep hi
  rw [microStepsLeft_of_currentStep hi]
  simp only [advance_of_ne hten, hval] at hw ⊢
  rw [hw, entryPhase_of_decode hd, microStepsFrom_entry]
  have hm : 10 - s.step.val = (10 - (s.step.val + 1)) + 1 := by omega
  have hk : 10 - (10 - (s.step.val + 1)) = s.step.val + 1 := by omega
  rw [hm, lastStepsCost, hk, hrs, Option.elim_some]

/-- A micro-step that stays in its step leaves less if less of the step is left. -/
theorem microStepsLeft_lt_of_stay (hi : s.currentStep = some i) (hti : t.currentStep = some i)
    (hsc : t.script = s.script) (hstep : t.step = s.step)
    (hlt : microStepsFrom n t.pollCnt i t.phase < microStepsFrom n s.pollCnt i s.phase) :
    t.microStepsLeft n < s.microStepsLeft n := by
  rw [microStepsLeft_of_currentStep hi, microStepsLeft_of_currentStep hti, hsc, hstep]
  exact Nat.add_lt_add_right hlt _

/-- A micro-step that is an `Advance()` leaves less if something of the step was left. -/
theorem microStepsLeft_lt_of_advance (hi : s.currentStep = some i) (hrom : t.rom = Rom.contents)
    (hsc : t.script = s.script) (hstep : t.step = s.step) (hpos : 0 < microStepsFrom n s.pollCnt i s.phase) :
    t.advance.microStepsLeft n < s.microStepsLeft n := by
  have hb : t.busy = true := by
    rw [busy_iff, hsc, ← busy_iff]
    exact busy_of_currentStep hi
  rw [microStepsLeft_of_currentStep hi, microStepsLeft_advance hrom hb, hsc, hstep]
  exact Nat.lt_add_of_pos_left hpos

/-- R150: with a bound every micro-step leaves less. -/
theorem Legal.microStepsLeft_lt {n : PollBound} (h : s.Legal) (hi : s.currentStep = some i)
    (hm : MicroStep i s t) (hn : s.pollMaxReads = some n) : t.microStepsLeft n.n < s.microStepsLeft n.n := by
  have hcnt : s.pollCnt < n.n := by simpa [hn, pollCntFits] using h.pollCnt
  cases hm with
  | ackWrite b hp | ackpWrite k hp =>
    refine microStepsLeft_lt_of_stay hi hi rfl rfl ?_
    rw [hp]
    exact Nat.lt_succ_self 1
  | pollWrite b e hp =>
    refine microStepsLeft_lt_of_stay hi hi rfl rfl ?_
    rw [hp]
    exact Nat.lt_succ_of_le (Nat.sub_le n.n _)
  | pollStay b e v hp =>
    refine microStepsLeft_lt_of_stay hi hi rfl rfl ?_
    simp only [setPollCnt_pollCnt, setPollCnt_phase, consume_phase, consume_pollMaxReads, hn, hp,
      pollCntAfter_some, microStepsFrom]
    omega
  | captureByte k v hp =>
    refine microStepsLeft_lt_of_stay hi hi rfl rfl ?_
    rw [hp]
    exact Nat.lt_succ_self 1
  | ackRead b a hp | ackpRead k a hp =>
    refine microStepsLeft_lt_of_advance hi h.rom rfl rfl ?_
    rw [hp]
    exact Nat.one_pos
  | pollEnd b e a hp =>
    refine microStepsLeft_lt_of_advance hi h.rom rfl rfl ?_
    rw [hp]
    exact Nat.sub_pos_of_lt hcnt
  | write b hp | captureEcho k hp =>
    refine microStepsLeft_lt_of_advance hi h.rom rfl rfl ?_
    rw [hp]
    exact Nat.one_pos
  | captureTimeout k hp =>
    rw [microStepsLeft_of_idle (abort_busy _ k), microStepsLeft_of_currentStep hi, hp]
    exact Nat.add_pos_left Nat.two_pos _

/-- R150: what is left at any time is at most the cost of a whole script. -/
theorem Legal.microStepsLeft_le (h : s.Legal) (n : Nat) : s.microStepsLeft n ≤ 18 + 2 * n := by
  cases hi : s.currentStep with
  | none => simp [microStepsLeft, hi]
  | some i =>
    have hrs := (currentStep_eq_romStep s h.rom).symm.trans hi
    have hpos : s.step.val ≠ 0 := fun hzero => by cases hsc : s.script <;> simp [romStep, Rom.word, hzero, hsc] at hrs
    have hk : 10 - (10 - s.step.val) = s.step.val := by omega
    calc s.microStepsLeft n
        = microStepsFrom n s.pollCnt i s.phase + lastStepsCost n s.script (10 - s.step.val) :=
          microStepsLeft_of_currentStep hi
      _ ≤ stepCost n i + lastStepsCost n s.script (10 - s.step.val) :=
          Nat.add_le_add_right (microStepsFrom_le n s.pollCnt i s.phase) _
      _ = lastStepsCost n s.script (10 - s.step.val + 1) := by rw [lastStepsCost, hk, hrs, Option.elim_some]
      _ ≤ lastStepsCost n s.script 10 := lastStepsCost_mono n s.script (by omega)
      _ ≤ 18 + 2 * n := lastStepsCost_ten_le n s.script

end State

/-- R150: a legal block with at most `k` micro-steps left is idle within `k` steps. -/
theorem run_until_idle {n : PollBound} {k : Nat} {s : State} (h : s.Legal) (hr : s.resetReq = false)
    (hn : s.pollMaxReads = some n) (hk : s.microStepsLeft n.n ≤ k) :
    ∃ j t, j ≤ k ∧ Sys2Proof.core.run j s = .next t ∧ t.busy = false := by
  cases hb : s.busy with
  | false => exact ⟨0, s, Nat.zero_le k, rfl, hb⟩
  | true =>
    obtain ⟨i, t, hi, hstep, hm⟩ := running_microStep h hr hb
    have hlt := h.microStepsLeft_lt hi hm hn
    obtain ⟨-, -, hbound⟩ := hm.keeps
    cases k with
    | zero => omega
    | succ k =>
      obtain ⟨j, u, hj, hrun, hu⟩ := run_until_idle (k := k) (h.microStep hb hi hm) (hm.inputs.2.trans hr)
        (hbound.trans hn) (by omega)
      exact ⟨j + 1, u, Nat.succ_le_succ hj, (run_succ hstep j).trans hrun, hu⟩

/-- Settles O49. -/
theorem boundedCommandsEnd : Obligations.BoundedCommandsEnd :=
  fun _ n h hr _ hn => run_until_idle h hr hn (h.microStepsLeft_le n.n)

end Sys2Proof.Machine

/-! ## How many events a command makes

The validator's rows say which events take a script from which place to which; so the number of writes a trace has
made, and the least number of reads, can be read off the place where the validator stands after it. -/

namespace Sys2Proof.Machine

/-! ### The rows of the validator -/

/-- R182: the rows that accept an event. `Accepts inp v i ev m`: at the step `i` the validator in state `v` accepts
the event `ev` and makes the move `m`. -/
inductive Accepts (inp : ValidatorInput) (v : ValidatorState) : Instr → Event → ValidatorMove → Prop
  | ackWrite (b : Byte) : v.phase = .w → Accepts inp v (.ack b) (.wrote b) (.go { v with phase := .r })
  | ackRead (b : Byte) (a : Answer) : v.phase = .r →
      Accepts inp v (.ack b) (answerEvent a) (validatorAdvance inp v)
  | ackpWrite (k : Fin 4) : v.phase = .w →
      Accepts inp v (.ackp k) (.wrote inp.payload[k]) (.go { v with phase := .r })
  | ackpRead (k : Fin 4) (a : Answer) : v.phase = .r →
      Accepts inp v (.ackp k) (answerEvent a) (validatorAdvance inp v)
  | pollWrite (b e : Byte) : v.phase = .w → Accepts inp v (.poll b e) (.wrote b)
      (.go { v with phase := .r, pollCnt := pollCntAfter inp.bound v.pollCnt 0 })
  | pollEnd (b e : Byte) (a : Answer) : v.phase = .r →
      (∀ x, a = .byte x → x ≠ e → pollBoundReached inp.bound v.pollCnt = true) →
      Accepts inp v (.poll b e) (answerEvent a) (validatorAdvance inp v)
  | pollStay (b e x : Byte) : v.phase = .r → x ≠ e → pollBoundReached inp.bound v.pollCnt = false →
      Accepts inp v (.poll b e) (answerEvent (.byte x))
        (.go { v with pollCnt := pollCntAfter inp.bound v.pollCnt (v.pollCnt + 1) })
  | write (b : Byte) : v.phase = .w → Accepts inp v (.write b) (.wrote b) (validatorAdvance inp v)
  | captureByte (k : Fin 3) (x : Byte) : v.phase = .r → Accepts inp v (.capture k) (answerEvent (.byte x))
      (.go { v with c := v.c.set k x, nc := v.nc + 1, phase := .e })
  | captureTimeout (k : Fin 3) : v.phase = .r →
      Accepts inp v (.capture k) (answerEvent .timeout) (.stop (.completeFail k))
  | captureEcho (k : Fin 3) : v.phase = .e →
      Accepts inp v (.capture k) (.wrote v.c[k]) (validatorAdvance inp v)

/-- R135: the step an entry of the ROM contents decodes to. -/
theorem romStep_of_decode {sc : Script} {k : Nat} {i : Instr}
    (h : (Rom.contents.word sc k).map decodeStepWord = some (.instr i)) : romStep sc k = some i := by
  obtain ⟨w, hw, hd⟩ := Option.map_eq_some_iff.1 h
  simp [romStep, hw, hd, Decoded.toOption]

section Rows

variable {inp : ValidatorInput} {v : ValidatorState} {ev : Event} {m : ValidatorMove}

/-- R182: the accepting rows of ACK. -/
theorem validatorAck_accepts {b : Byte} (h : validatorAck inp b v ev = m) (hm : ∀ x, m ≠ .bad x) :
    (v.phase = .w ∧ ev = .wrote b ∧ m = .go { v with phase := .r }) ∨
      (v.phase = .r ∧ ∃ a, ev = answerEvent a ∧ m = validatorAdvance inp v) := by
  subst h
  cases hp : v.phase <;> cases ev <;> simp only [validatorAck, hp] at hm ⊢
  case w.wrote x =>
    by_cases hx : x = b
    · simp [hx]
    · simp [hx] at hm
  case r.read x => exact .inr ⟨trivial, .byte x, rfl, trivial⟩
  case r.timeout => exact .inr ⟨trivial, .timeout, rfl, trivial⟩
  all_goals exact absurd rfl (hm _)

/-- R182: the accepting rows of POLL. -/
theorem validatorPoll_accepts {b e : Byte} (h : validatorPoll inp b e v ev = m) (hm : ∀ x, m ≠ .bad x) :
    Accepts inp v (.poll b e) ev m := by
  subst h
  cases hp : v.phase <;> cases ev <;> simp only [validatorPoll, hp] at hm ⊢
  case w.wrote x =>
    by_cases hx : x = b
    · simpa [hx] using Accepts.pollWrite b e hp
    · simp [hx] at hm
  case r.timeout => exact .pollEnd b e .timeout hp nofun
  case r.read x =>
    split
    case isTrue hx => exact .pollEnd b e (.byte x) hp fun y hy hne => absurd hx (by cases hy; exact hne)
    case isFalse hx =>
      split
      case isTrue hb => exact .pollEnd b e (.byte x) hp fun _ _ _ => hb
      case isFalse hb => simpa only [hp, answerEvent] using Accepts.pollStay b e x hp hx (Bool.eq_false_iff.2 hb)
  all_goals exact absurd rfl (hm _)

/-- R182: the accepting row of WRITE. -/
theorem validatorWrite_accepts {b : Byte} (h : validatorWrite inp b v ev = m) (hm : ∀ x, m ≠ .bad x) :
    Accepts inp v (.write b) ev m := by
  subst h
  cases hp : v.phase <;> cases ev <;> simp only [validatorWrite, hp] at hm ⊢
  case w.wrote x =>
    by_cases hx : x = b
    · simpa [hx] using Accepts.write b hp
    · simp [hx] at hm
  all_goals exact absurd rfl (hm _)

/-- R182: the accepting rows of CAPTURE. -/
theorem validatorCapture_accepts {k : Fin 3} (h : validatorCapture inp k v ev = m) (hm : ∀ x, m ≠ .bad x) :
    Accepts inp v (.capture k) ev m := by
  subst h
  cases hp : v.phase <;> cases ev <;> simp only [validatorCapture, hp] at hm ⊢
  case r.read x => exact .captureByte k x hp
  case r.timeout => exact .captureTimeout k hp
  case e.wrote x =>
    by_cases hx : x = v.c[k]
    · simpa [hx] using Accepts.captureEcho k hp
    · simp only [if_neg hx] at hm
      exact absurd rfl (hm _)
  all_goals exact absurd rfl (hm _)

/-- R182: what the validator can do with an event it accepts. -/
theorem accepts_of_validatorMove (h : validatorMove inp v ev = m) (hm : ∀ x, m ≠ .bad x) :
    ∃ i, romStep inp.script v.step.val = some i ∧ Accepts inp v i ev m := by
  unfold validatorMove at h
  split at h
  case h_1 b hi =>
    refine ⟨_, romStep_of_decode hi, ?_⟩
    rcases validatorAck_accepts h hm with ⟨hp, rfl, rfl⟩ | ⟨hp, a, rfl, rfl⟩
    · exact .ackWrite b hp
    · exact .ackRead b a hp
  case h_2 k hi =>
    refine ⟨_, romStep_of_decode hi, ?_⟩
    rcases validatorAck_accepts h hm with ⟨hp, rfl, rfl⟩ | ⟨hp, a, rfl, rfl⟩
    · exact .ackpWrite k hp
    · exact .ackpRead k a hp
  case h_3 hi => exact ⟨_, romStep_of_decode hi, validatorPoll_accepts h hm⟩
  case h_4 hi => exact ⟨_, romStep_of_decode hi, validatorWrite_accepts h hm⟩
  case h_5 hi => exact ⟨_, romStep_of_decode hi, validatorCapture_accepts h hm⟩
  case h_6 => exact absurd h.symm (hm _)

/-- R182: a validator that goes on after `Advance` stands at the next step, at its entry phase. -/
theorem validatorAdvance_go {v' : ValidatorState} (h : validatorAdvance inp v = .go v') :
    v'.step.val = v.step.val + 1 ∧ v'.phase = entryPhase (Rom.contents.word inp.script (v.step.val + 1)) := by
  unfold validatorAdvance at h
  split at h <;> cases h
  case isFalse hten =>
    refine ⟨?_, rfl⟩
    have hne : v.step.val ≠ 10 := fun hval => hten (Fin.ext hval)
    rw [Fin.val_add]
    exact Nat.mod_eq_of_lt (by omega)

/-! ### The validator over a trace -/

/-- R182: a script that has not ended after an event had not ended before it. -/
theorem validatorFeed_live {r : ValidatorRun} {v' : ValidatorState} {n : Nat}
    (h : validatorFeed inp r ev = .live v' n) :
    ∃ v k, r = .live v k ∧ validatorMove inp v ev = .go v' := by
  cases r with
  | live v k =>
    refine ⟨v, k, rfl, ?_⟩
    cases hmove : validatorMove inp v ev <;> simp_all [validatorFeed]
  | stopped | violated => cases h

end Rows

/-! ### Counting writes and reads -/

section Counts

variable (tr : List Event)

@[simp] theorem writesOf_append_wrote (b : Byte) : writesOf (tr ++ [.wrote b]) = writesOf tr ++ [b] := by
  simp [writesOf]

@[simp] theorem writesOf_append_answer (a : Answer) : writesOf (tr ++ [answerEvent a]) = writesOf tr := by
  cases a <;> simp [writesOf, answerEvent]

@[simp] theorem readsOf_append_wrote (b : Byte) : readsOf (tr ++ [.wrote b]) = readsOf tr := by
  simp [readsOf]

@[simp] theorem readsOf_append_answer (a : Answer) : readsOf (tr ++ [answerEvent a]) = readsOf tr + 1 := by
  cases a <;> simp [readsOf, answerEvent]

end Counts

/-- R137 to R143: the writes a step has made when it stands in a phase. A CAPTURE writes last, the others first. -/
def writesMade : Instr → Phase → Nat
  | .capture _, _ => 0
  | _, .r => 1
  | _, _ => 0

/-- R142: the reads a step is sure to have made when it stands in a phase: only an echo comes after a read. -/
def readsMade : Phase → Nat
  | .e => 1
  | _ => 0

/-- R137 to R143: the least number of reads of a step. -/
def leastReads : Instr → Nat
  | .write _ => 0
  | _ => 1

/-- R145: the least number of reads of the steps of a script before step `k`. -/
def readsBefore (sc : Script) : Nat → Nat
  | 0 => 0
  | k + 1 => readsBefore sc k + (romStep sc k).elim 0 leastReads

/-- R145, R150: the trace has the writes, and at least the reads, of a script that stands at step `k` in a phase.
Every step writes once. -/
structure CountsFit (sc : Script) (k : Nat) (p : Phase) (tr : List Event) : Prop where
  writes : (writesOf tr).length + 1 = k + (romStep sc k).elim 0 fun i => writesMade i p
  reads : readsBefore sc k + readsMade p ≤ readsOf tr

/-- R146: no write is made of a step that is being entered. -/
theorem writesMade_entry (sc : Script) (k : Nat) :
    ((romStep sc k).elim 0 fun i => writesMade i (entryPhase (Rom.contents.word sc k))) = 0 := by
  cases hw : Rom.contents.word sc k with
  | none => simp [romStep, hw]
  | some w =>
    cases hd : decodeStepWord w with
    | reject why => simp [romStep, hw, hd, Decoded.toOption]
    | instr i =>
      simp only [romStep, hw, hd, Decoded.toOption, Option.bind_some, Option.elim_some, entryPhase_of_decode hd]
      cases i <;> rfl

/-- R146: no read is made of a step that is being entered. -/
theorem readsMade_entry (w : Option StepWord) : readsMade (entryPhase w) = 0 := by
  have hne := entryPhase_ne_e w
  cases hp : entryPhase w with
  | w | r => rfl
  | e => exact absurd hp hne

namespace CountsFit

variable {sc : Script} {k : Nat} {p q : Phase} {tr : List Event} {i : Instr}

/-- A write within a step. -/
theorem wrote_of_stay (h : CountsFit sc k p tr) (hi : romStep sc k = some i) (b : Byte)
    (hw : writesMade i q = writesMade i p + 1) (hr : readsMade q ≤ readsMade p) :
    CountsFit sc k q (tr ++ [.wrote b]) := by
  obtain ⟨hwrites, hreads⟩ := h
  rw [hi, Option.elim_some] at hwrites
  constructor
  · rw [hi, Option.elim_some, writesOf_append_wrote, List.length_append, List.length_singleton]
    omega
  · rw [readsOf_append_wrote]
    omega

/-- A read within a step. -/
theorem answer_of_stay (h : CountsFit sc k p tr) (hi : romStep sc k = some i) (a : Answer)
    (hw : writesMade i q = writesMade i p) (hr : readsMade q ≤ readsMade p + 1) :
    CountsFit sc k q (tr ++ [answerEvent a]) := by
  obtain ⟨hwrites, hreads⟩ := h
  rw [hi, Option.elim_some] at hwrites
  constructor
  · rw [hi, Option.elim_some, writesOf_append_answer]
    omega
  · rw [readsOf_append_answer]
    omega

/-- The write that ends a step. -/
theorem wrote_of_advance (h : CountsFit sc k p tr) (hi : romStep sc k = some i) (b : Byte)
    (hw : writesMade i p = 0) (hr : leastReads i ≤ readsMade p) :
    CountsFit sc (k + 1) (entryPhase (Rom.contents.word sc (k + 1))) (tr ++ [.wrote b]) := by
  obtain ⟨hwrites, hreads⟩ := h
  rw [hi, Option.elim_some] at hwrites
  constructor
  · rw [writesMade_entry, writesOf_append_wrote, List.length_append, List.length_singleton]
    omega
  · rw [readsMade_entry, readsOf_append_wrote, readsBefore, hi, Option.elim_some]
    omega

/-- The read that ends a step. -/
theorem answer_of_advance (h : CountsFit sc k p tr) (hi : romStep sc k = some i) (a : Answer)
    (hw : writesMade i p = 1) (hr : leastReads i ≤ readsMade p + 1) :
    CountsFit sc (k + 1) (entryPhase (Rom.contents.word sc (k + 1))) (tr ++ [answerEvent a]) := by
  obtain ⟨hwrites, hreads⟩ := h
  rw [hi, Option.elim_some] at hwrites
  constructor
  · rw [writesMade_entry, writesOf_append_answer]
    omega
  · rw [readsMade_entry, readsOf_append_answer, readsBefore, hi, Option.elim_some]
    omega

end CountsFit

/-- R182: an accepted event keeps the counts those of the place where the validator stands. -/
theorem CountsFit.accepts {inp : ValidatorInput} {v v' : ValidatorState} {i : Instr} {ev : Event}
    {m : ValidatorMove} {tr : List Event} (h : CountsFit inp.script v.step.val v.phase tr)
    (hi : romStep inp.script v.step.val = some i) (hacc : Accepts inp v i ev m) (hm : m = .go v') :
    CountsFit inp.script v'.step.val v'.phase (tr ++ [ev]) := by
  cases hacc with
  | ackWrite b hp | ackpWrite k hp | pollWrite b e hp =>
    cases hm
    exact h.wrote_of_stay hi _ (by rw [hp]; rfl) (Nat.zero_le _)
  | pollStay b e x hp =>
    cases hm
    exact h.answer_of_stay hi _ rfl (Nat.le_succ _)
  | captureByte k x hp =>
    cases hm
    exact h.answer_of_stay hi _ rfl (Nat.le_add_left _ _)
  | ackRead b a hp | ackpRead k a hp | pollEnd b e a hp =>
    obtain ⟨hstep, hphase⟩ := validatorAdvance_go hm
    rw [hstep, hphase]
    exact h.answer_of_advance hi a (by rw [hp]; rfl) (Nat.le_add_left _ _)
  | write b hp =>
    obtain ⟨hstep, hphase⟩ := validatorAdvance_go hm
    rw [hstep, hphase]
    exact h.wrote_of_advance hi b (by rw [hp]; rfl) (Nat.zero_le _)
  | captureEcho k hp =>
    obtain ⟨hstep, hphase⟩ := validatorAdvance_go hm
    rw [hstep, hphase]
    exact h.wrote_of_advance hi _ rfl (by rw [hp]; exact Nat.le_refl 1)
  | captureTimeout k hp => cases hm

/-- R182, R150: if the events `pre` have the counts of where the validator stands after them, so has every longer
trace it accepts. -/
theorem countsFit_of_foldl {inp : ValidatorInput} {tr pre : List Event} {r : ValidatorRun} {v : ValidatorState}
    {n : Nat} (hpre : ∀ u k, r = .live u k → CountsFit inp.script u.step.val u.phase pre)
    (h : tr.foldl (validatorFeed inp) r = .live v n) :
    CountsFit inp.script v.step.val v.phase (pre ++ tr) := by
  induction tr generalizing pre r with
  | nil =>
    rw [List.append_nil]
    exact hpre v n h
  | cons ev tr ih =>
    rw [List.append_cons]
    refine ih (fun u k hfeed => ?_) h
    obtain ⟨u', k', hlive, hmove⟩ := validatorFeed_live hfeed
    obtain ⟨i, hi, hacc⟩ := accepts_of_validatorMove hmove nofun
    exact (hpre u' k' hlive).accepts hi hacc rfl

/-- R181: before the first event nothing is written or read. -/
theorem countsFit_init {sc : Script} (hsc : sc ≠ .idle) :
    CountsFit sc validatorInit.step.val validatorInit.phase [] := by
  have hone : romStep sc validatorInit.step.val = some (.ack 0x64) := romStep_one hsc
  refine ⟨by rw [hone]; rfl, ?_⟩
  cases sc <;> decide

/-- R182, R150: a trace the validator accepts has the counts of the place where the validator stands. -/
theorem countsFit_of_validatorRun {inp : ValidatorInput} (hsc : inp.script ≠ .idle) {tr : List Event}
    {v : ValidatorState} {n : Nat} (h : validatorRun inp tr = .live v n) :
    CountsFit inp.script v.step.val v.phase tr := by
  have hinit : ∀ u k, ValidatorRun.live validatorInit 0 = .live u k →
      CountsFit inp.script u.step.val u.phase [] := fun u k hu => by
    cases hu
    exact countsFit_init hsc
  exact countsFit_of_foldl hinit h

/-- R150: the counts of a running command. -/
theorem State.TraceConforms.countsFit {s : State} (h : s.TraceConforms) (hb : s.busy = true) :
    CountsFit s.script s.step.val s.phase s.trace := by
  obtain ⟨v, hrun, hmirrors⟩ := h hb
  have hfit := countsFit_of_validatorRun (inp := s.validatorInput) ((State.busy_iff s).1 hb) hrun
  rwa [hmirrors.step, hmirrors.phase] at hfit

/-! ### The finished command -/

/-- R77, R150: the reads of the start script before its last step. -/
theorem readsBefore_start_ten : readsBefore .start 10 = 9 := by decide

/-- R78, R150: the reads of the stop script before its last step. -/
theorem readsBefore_stop_ten : readsBefore .stop 10 = 7 := by decide

/-- R78, R150: the reads of the stop script before the CAPTURE `k`. -/
theorem readsBefore_stop_capture (k : Fin 3) : readsBefore .stop (4 + k.val) = 2 + k.val := by
  revert k
  decide

/-- Settles O58: the counts where the script ends, and the read that ends it. -/
theorem eventCountsOfAFinishedScript : Obligations.EventCountsOfAFinishedScript := by
  intro s t h hconf hr hb hstep ht
  obtain ⟨i, t', hi, hstep', hm⟩ := running_microStep h hr hb
  cases hstep.symm.trans hstep'
  obtain ⟨hwrites, hreads⟩ := hconf.countsFit hb
  have hrs := (State.currentStep_eq_romStep s h.rom).symm.trans hi
  rw [hrs, Option.elim_some] at hwrites
  have hread : s.phase = .r → ∃ a, t.trace = s.trace ++ [answerEvent a] := fun hp => by
    rcases hm.primitive with ⟨-, a, -, htrace, -⟩ | ⟨hne, -⟩
    · exact ⟨a, htrace⟩
    · exact absurd hp hne
  rcases h.micro_ends hi hm ht with ⟨hten, hp, ⟨b, e, rfl⟩, a, rfl⟩ | ⟨k, rfl, hp, rfl⟩
  · obtain ⟨a', htrace⟩ := hread hp
    have hval : s.step.val = 10 := congrArg Fin.val hten
    rw [hval, hp] at hwrites
    rw [hval] at hreads
    rw [htrace, writesOf_append_answer, readsOf_append_answer, State.finish_status]
    refine ⟨fun _ => Nat.succ.inj hwrites, fun _ hstart => ?_, fun _ hstop => ?_, nofun⟩
    · rw [hstart, readsBefore_start_ten] at hreads
      omega
    · rw [hstop, readsBefore_stop_ten] at hreads
      omega
  · obtain ⟨a', htrace⟩ := hread hp
    obtain ⟨hstop, hk⟩ := h.at_capture hi
    rw [hk] at hwrites
    rw [hk, hstop, readsBefore_stop_capture] at hreads
    rw [htrace, writesOf_append_answer, readsOf_append_answer]
    refine ⟨nofun, nofun, nofun, fun j hj => ?_⟩
    cases hj
    simp only [writesMade] at hwrites
    omega

end Sys2Proof.Machine

/-! ## The written bytes of a finished script

A script's steps write their bytes in order, so the bytes a trace has written can be read off the place where the
validator stands after it, from the payload and the bytes the validator has captured. -/

namespace Sys2Proof.Machine

/-! ### The bytes of the steps -/

/-- R137 to R143: what a step writes, with the payload `p` and the captured bytes `q`. -/
def stepBytes (p : Payload) (q : Response) : Instr → List Byte
  | .ack b | .poll b _ | .write b => [b]
  | .ackp k => [p[k]]
  | .capture k => [q[k]]
  | _ => []

/-- R77, R78: what the steps of a script before step `k` write. -/
def bytesBefore (sc : Script) (p : Payload) (q : Response) : Nat → List Byte
  | 0 => []
  | k + 1 => bytesBefore sc p q k ++ (romStep sc k).elim [] (stepBytes p q)

/-- R137 to R143: what a script has written when it stands at step `k` in a phase. -/
def bytesWritten (sc : Script) (p : Payload) (q : Response) (k : Nat) (ph : Phase) : List Byte :=
  bytesBefore sc p q k ++ (romStep sc k).elim [] fun i => (stepBytes p q i).take (writesMade i ph)

section Bytes

variable {sc : Script} {k : Nat} {i : Instr} {j : Fin 3}

/-- The bytes written at a step. -/
theorem bytesWritten_of_step (hi : romStep sc k = some i) (p : Payload) (q : Response) (ph : Phase) :
    bytesWritten sc p q k ph = bytesBefore sc p q k ++ (stepBytes p q i).take (writesMade i ph) := by
  simp [bytesWritten, hi]

/-- R146: where a step is entered, what is written are the bytes of the steps before it. -/
theorem bytesWritten_entry (sc : Script) (p : Payload) (q : Response) (k : Nat) :
    bytesWritten sc p q k (entryPhase (Rom.contents.word sc k)) = bytesBefore sc p q k := by
  have hnone := writesMade_entry sc k
  cases hi : romStep sc k <;> simp_all [bytesWritten]

/-- The bytes of one step more. -/
theorem bytesBefore_succ (hi : romStep sc k = some i) (p : Payload) (q : Response) :
    bytesBefore sc p q (k + 1) = bytesBefore sc p q k ++ stepBytes p q i := by
  rw [bytesBefore, hi, Option.elim_some]

/-- R146: where the step after `i` is entered, the bytes of `i` are written. -/
theorem bytesWritten_next (hi : romStep sc k = some i) (p : Payload) (q : Response) :
    bytesWritten sc p q (k + 1) (entryPhase (Rom.contents.word sc (k + 1))) =
      bytesBefore sc p q k ++ stepBytes p q i := by
  rw [bytesWritten_entry, bytesBefore_succ hi]

/-- R77, R78: each capture register has at most one CAPTURE in a script. -/
theorem romStep_capture_inj {k m : Fin 11} (hk : romStep sc k.val = some (.capture j))
    (hm : romStep sc m.val = some (.capture j)) : k.val = m.val := by
  cases sc with
  | idle => cases hk
  | start => exact absurd hk (romStep_start_ne_capture k j)
  | stop => rw [(romStep_stop_capture_iff k j).1 hk, (romStep_stop_capture_iff m j).1 hm]

/-- A byte captured into a register makes no difference to what steps without a CAPTURE of that register write. -/
theorem bytesBefore_set (p : Payload) (q : Response) (x : Byte)
    (h : ∀ m < k, romStep sc m ≠ some (.capture j)) :
    bytesBefore sc p (q.set j x) k = bytesBefore sc p q k := by
  induction k with
  | zero => rfl
  | succ k ih =>
    simp only [bytesBefore, ih fun m hm => h m (Nat.lt_succ_of_lt hm)]
    cases hi : romStep sc k with
    | none => rfl
    | some i =>
      cases i with
      | capture n =>
        have hne : j.val ≠ n.val := fun hval => h k (Nat.lt_succ_self k) (by rw [hi, Fin.ext hval])
        simp [stepBytes, Vector.getElem_set_ne j.isLt n.isLt hne]
      | _ => rfl

end Bytes

/-! ### The validator over a trace -/

/-- R182: what holds after the events `pre`, and is kept by every event after which the script goes on, holds
wherever the validator stands after more events. -/
theorem validatorFeed_foldl_induction {inp : ValidatorInput} {P : ValidatorState → List Event → Prop}
    (hkeep : ∀ v tr i ev v', P v tr → romStep inp.script v.step.val = some i → Accepts inp v i ev (.go v') →
      P v' (tr ++ [ev]))
    {tr pre : List Event} {r : ValidatorRun} {v : ValidatorState} {n : Nat}
    (hpre : ∀ u k, r = .live u k → P u pre) (h : tr.foldl (validatorFeed inp) r = .live v n) : P v (pre ++ tr) := by
  induction tr generalizing pre r with
  | nil =>
    rw [List.append_nil]
    exact hpre v n h
  | cons ev tr ih =>
    rw [List.append_cons]
    refine ih (fun u k hfeed => ?_) h
    obtain ⟨u', k', hlive, hmove⟩ := validatorFeed_live hfeed
    obtain ⟨i, hi, hacc⟩ := accepts_of_validatorMove hmove nofun
    exact hkeep u' pre i ev u (hpre u' k' hlive) hi hacc

/-- R182: what holds before the first event, and is kept by every event after which the script goes on, holds
wherever the validator stands. -/
theorem validatorRun_induction {inp : ValidatorInput} {P : ValidatorState → List Event → Prop}
    (hinit : P validatorInit [])
    (hkeep : ∀ v tr i ev v', P v tr → romStep inp.script v.step.val = some i → Accepts inp v i ev (.go v') →
      P v' (tr ++ [ev]))
    {tr : List Event} {v : ValidatorState} {n : Nat} (h : validatorRun inp tr = .live v n) : P v tr := by
  have hlive : ∀ u k, ValidatorRun.live validatorInit 0 = .live u k → P u [] := fun u k hu => by
    cases hu
    exact hinit
  exact validatorFeed_foldl_induction hkeep hlive h

/-- R182: `Advance` keeps the captured bytes. -/
theorem validatorAdvance_go_captured {inp : ValidatorInput} {v v' : ValidatorState}
    (h : validatorAdvance inp v = .go v') : v'.c = v.c := by
  unfold validatorAdvance at h
  split at h <;> cases h
  rfl

/-- R182: an accepted event keeps the bytes written those of the place where the validator stands. -/
theorem bytesWritten_accepts {inp : ValidatorInput} {v v' : ValidatorState} {i : Instr} {ev : Event}
    {m : ValidatorMove} {tr : List Event}
    (h : writesOf tr = bytesWritten inp.script inp.payload v.c v.step.val v.phase)
    (hi : romStep inp.script v.step.val = some i) (hacc : Accepts inp v i ev m) (hm : m = .go v') :
    writesOf (tr ++ [ev]) = bytesWritten inp.script inp.payload v'.c v'.step.val v'.phase := by
  rw [bytesWritten_of_step hi] at h
  have hnext (hgo : validatorAdvance inp v = .go v') :
      bytesWritten inp.script inp.payload v'.c v'.step.val v'.phase =
        bytesBefore inp.script inp.payload v.c v.step.val ++ stepBytes inp.payload v.c i := by
    obtain ⟨hstep, hphase⟩ := validatorAdvance_go hgo
    rw [hstep, hphase, validatorAdvance_go_captured hgo, bytesWritten_next hi]
  cases hacc with
  | ackWrite b hp | ackpWrite k hp | pollWrite b e hp =>
    cases hm
    simp [bytesWritten_of_step hi, h, hp, writesMade, stepBytes]
  | pollStay b e x hp =>
    cases hm
    rw [bytesWritten_of_step hi, writesOf_append_answer, h]
  | captureByte k x hp =>
    cases hm
    have hfirst : ∀ m < v.step.val, romStep inp.script m ≠ some (.capture k) := fun m hlt hm =>
      absurd (romStep_capture_inj (k := ⟨m, by omega⟩) hm hi) (Nat.ne_of_lt hlt)
    rw [bytesWritten_of_step hi, bytesBefore_set _ _ _ hfirst, writesOf_append_answer, h]
    rfl
  | ackRead b a hp | ackpRead k a hp | pollEnd b e a hp =>
    rw [hnext hm, writesOf_append_answer, h, hp]
    rfl
  | write b hp | captureEcho k hp =>
    simp [hnext hm, h, hp, writesMade, stepBytes]
  | captureTimeout k hp => cases hm

/-- R181: before the first event nothing is written. -/
theorem bytesWritten_init (sc : Script) (p : Payload) :
    bytesWritten sc p validatorInit.c validatorInit.step.val validatorInit.phase = [] := by
  cases sc <;> rfl

/-- R182: a trace the validator accepts has the writes of the place where the validator stands. -/
theorem writesOf_of_validatorRun {inp : ValidatorInput} {tr : List Event} {v : ValidatorState} {n : Nat}
    (h : validatorRun inp tr = .live v n) :
    writesOf tr = bytesWritten inp.script inp.payload v.c v.step.val v.phase :=
  validatorRun_induction
    (P := fun v tr => writesOf tr = bytesWritten inp.script inp.payload v.c v.step.val v.phase)
    (bytesWritten_init inp.script inp.payload).symm
    (fun _ _ _ _ _ hP hi hacc => bytesWritten_accepts hP hi hacc rfl) h

/-! ### The finished script -/

/-- R77: what the whole start script writes. -/
theorem bytesBefore_start (p : Payload) (q : Response) :
    bytesBefore .start p q 11 = ([0x64, 0x64, 0x1E, 0x64, 0x2C, p[0], p[1], p[2], p[3], 0x00] : List Byte) := rfl

/-- R78: what the whole stop script writes. -/
theorem bytesBefore_stop (p : Payload) (q : Response) :
    bytesBefore .stop p q 11 = ([0x64, 0x2B, 0x0A, q[0], q[1], q[2], 0x4E, 0x00, 0x64, 0x82] : List Byte) := rfl

/-- R149: the step after which no script runs was one of the two micro-steps that end a script. -/
theorem step_ends_script {s t : State} (h : s.Legal) (hr : s.resetReq = false) (hb : s.busy = true)
    (hstep : step s = .next t) (ht : t.busy = false) :
    ∃ i, s.currentStep = some i ∧ MicroStep i s t ∧
      ((s.step = 10 ∧ s.phase = .r ∧ (∃ b e, i = .poll b e) ∧ ∃ a, t = (s.consume a).finish) ∨
        ∃ k, i = .capture k ∧ s.phase = .r ∧ t = (s.consume .timeout).abort k) := by
  obtain ⟨i, t', hi, hstep', hm⟩ := running_microStep h hr hb
  cases hstep.symm.trans hstep'
  exact ⟨i, hi, hm, h.micro_ends hi hm ht⟩

/-- R23, R78: at step 10 of the stop script the validator has captured what the block has. -/
theorem Mirrors.captured_at_ten {v : ValidatorState} {s : State} (hv : Mirrors v s) (h : s.Legal)
    (hsc : s.script = .stop) (hten : s.step = 10) : v.c = s.cap := by
  have hvalid (i : Fin 3) : s.capValid[i] = true := by
    rw [h.valid hsc, State.hasCaptured_iff, hten]
    exact .inl (by omega)
  exact Vector.ext fun i hi => hv.captured hsc ⟨i, hi⟩ (hvalid ⟨i, hi⟩)

/-- Settles O57: at the read that ends step 10 all ten steps have written. -/
theorem writtenBytesOfAFinishedScript : Obligations.WrittenBytesOfAFinishedScript := by
  intro s t h hconf hr hb hstep ht hok
  obtain ⟨v, hrun, hv⟩ := hconf hb
  obtain ⟨i, hi, hm, ⟨hten, hp, ⟨b, e, rfl⟩, a, rfl⟩ | ⟨k, rfl, hp, rfl⟩⟩ := step_ends_script h hr hb hstep ht
  case inr => cases hok
  have hval : s.step.val = 10 := congrArg Fin.val hten
  have hrs : romStep s.script 10 = some (.poll b e) := by
    rw [← hval, ← s.currentStep_eq_romStep h.rom, hi]
  have htrace : (s.consume a).finish.trace = s.trace ++ [answerEvent a] := by
    rw [← State.advance_of_last (s := s.consume a) hten, State.advance_trace, State.consume_trace]
  have hwrites : writesOf (s.consume a).finish.trace = bytesBefore s.script s.pay v.c 11 := by
    rw [htrace, writesOf_append_answer, bytesBefore_succ hrs, writesOf_of_validatorRun hrun, hv.step, hv.phase,
      hval, hp]
    exact bytesWritten_of_step hrs _ _ _
  refine ⟨fun hstart => ?_, fun hstop => ?_⟩
  · rw [hwrites, hstart, bytesBefore_start]
  · rw [hwrites, hstop, bytesBefore_stop, hv.captured_at_ten h hstop hten, (hm.captures_of_not_capture nofun).1]

end Sys2Proof.Machine

/-! ## The four commands

`accepted_of_exec` says what an acceptance can do; here each acceptance is executed, and the statements about the
commands are read off `Accepted` with the value of `Encode`. -/

namespace Sys2Proof.Machine

/-! ### A command executed -/

section Executed

variable {i : Instr} {s t : State}

/-- R164: a command executed while a script runs has no effect. -/
theorem exec_command_of_busy (hi : i.isStep = false) (hb : s.busy = true) : exec i s = .next s := by
  cases i with
  | encode ma => rw [exec, execEncode, State.acceptWhenIdle_of_busy hb]
  | decode ign b1 b2 b3 => rw [exec, execDecode, State.acceptWhenIdle_of_busy hb]
  | setCurrent ma => rw [exec, execSetCurrent, State.acceptWhenIdle_of_busy hb]
  | stopQuery ign => rw [exec, execStopQuery, State.acceptWhenIdle_of_busy hb]
  | ack _ | ackp _ | poll _ _ | write _ | capture _ => cases hi

/-- R160 to R163: an acceptance is what the command executed by an idle block does. -/
theorem exec_of_accepted (hb : s.busy = false) (h : Accepted i s t) : exec i s = .next t := by
  cases h with
  | encode ma p he | encodeRange ma he =>
    rw [exec, execEncode, State.acceptWhenIdle_of_idle hb, he]
    rfl
  | decode ign b1 b2 b3 => rw [exec, execDecode, State.acceptWhenIdle_of_idle hb]
  | setCurrent ma p he | setCurrentRange ma he =>
    rw [exec, execSetCurrent, State.acceptWhenIdle_of_idle hb, he]
    rfl
  | stopQuery ign => rw [exec, execStopQuery, State.acceptWhenIdle_of_idle hb]

/-- R164: a command executed has no effect, or is accepted. -/
theorem exec_command_cases (hi : i.isStep = false) (h : exec i s = .next t) : t = s ∨ Accepted i s t := by
  cases hb : s.busy with
  | true =>
    rw [exec_command_of_busy hi hb] at h
    cases h
    exact .inl rfl
  | false => exact .inr (accepted_of_exec hi hb h)

end Executed

namespace Accepted

variable {i : Instr} {s t : State}

/-- R164: an acceptance performs no transport primitive; the trace of the command begins. -/
theorem transport (h : Accepted i s t) : t.answers = s.answers ∧ t.draws = s.draws ∧ t.trace = [] := by
  cases h <;> exact ⟨rfl, rfl, rfl⟩

/-- R160 to R163: what every acceptance leaves as it was. -/
theorem frame (h : Accepted i s t) :
    t.rom = s.rom ∧ t.pollMaxReads = s.pollMaxReads ∧ t.port = s.port ∧ t.resetReq = s.resetReq ∧
      t.answers = s.answers ∧ t.draws = s.draws ∧ t.pollCnt = s.pollCnt ∧ t.cap = s.cap := by
  cases h <;> exact ⟨rfl, rfl, rfl, rfl, rfl, rfl, rfl, rfl⟩

end Accepted

/-- R108, R160: `Encode` of an operand in range, as the two count bytes, the reserved byte and the sign byte. -/
theorem encodeCurrent_of_inRange {ma : BitVec 32} (h : -202206 ≤ ma.toInt ∧ ma.toInt ≤ 202206) :
    encodeCurrent ma = .ok
      #v[BitVec.ofNat 8 ((632 * ma.toInt.natAbs + 975) / 1950 / 256),
        BitVec.ofNat 8 ((632 * ma.toInt.natAbs + 975) / 1950 % 256), 0x00,
        if 0 ≤ ma.toInt then 0x01 else 0x00] :=
  (encodeCurrent_eq_ok_iff ma _).2 ⟨by omega, payloadOf_of_bytes (highByte_eq _) (lowByte_eq _) _⟩

/-- R108, R206: `Encode` of an operand out of range. -/
theorem encodeCurrent_of_outOfRange {ma : BitVec 32} (h : ma.toInt < -202206 ∨ 202206 < ma.toInt) :
    encodeCurrent ma = .range :=
  (encodeCurrent_eq_range_iff ma).2 (by omega)

/-! ### The statements about one command -/

/-- Settles O21. -/
theorem encodeCommandResult : Obligations.EncodeCommandResult := fun ma _ hb =>
  ⟨[], .inr rfl, fun hin => exec_of_accepted hb (.encode ma _ (encodeCurrent_of_inRange hin)),
    fun hout => exec_of_accepted hb (.encodeRange ma (encodeCurrent_of_outOfRange hout))⟩

/-- Settles O23. -/
theorem setCurrentAcceptance : Obligations.SetCurrentAcceptance := fun ma _ hb =>
  ⟨[], .inr rfl, fun hin => exec_of_accepted hb (.setCurrent ma _ (encodeCurrent_of_inRange hin)),
    fun hout => exec_of_accepted hb (.setCurrentRange ma (encodeCurrent_of_outOfRange hout))⟩

/-- Settles O22. -/
theorem decodeCommandResult : Obligations.DecodeCommandResult := by
  intro ign b1 b2 b3 s hb
  refine ⟨[], .inr rfl, ?_⟩
  rw [exec_of_accepted hb (.decode ign b1 b2 b3), fieldDecode, fieldMagnitude_eq_ofNat, fieldNegative_eq_decide]
  rfl

/-- Settles O24. -/
theorem stopQueryAcceptance : Obligations.StopQueryAcceptance := fun ign _ hb =>
  ⟨[], .inr rfl, exec_of_accepted hb (.stopQuery ign)⟩

/-- Settles O26: a command that has no effect leaves everything, and an accepted one what its row does not write. -/
theorem commandFrame : Obligations.CommandFrame := by
  refine fun s t => ⟨fun i hi h => ?_, fun ma h => ?_, fun ign b1 b2 b3 h => ?_, fun ma h => ?_, fun ign h => ?_⟩
  · rcases exec_command_cases hi h with rfl | ha
    · exact ⟨rfl, rfl, rfl, rfl, rfl, rfl, rfl, rfl⟩
    · exact ha.frame
  · rcases exec_command_cases rfl h with rfl | ha
    · exact ⟨rfl, rfl, rfl, rfl, rfl, rfl⟩
    · cases ha <;> exact ⟨rfl, rfl, rfl, rfl, rfl, rfl⟩
  · rcases exec_command_cases rfl h with rfl | ha
    · exact ⟨rfl, rfl, rfl, rfl, rfl⟩
    · cases ha
      exact ⟨rfl, rfl, rfl, rfl, rfl⟩
  · rcases exec_command_cases rfl h with rfl | ha
    · exact ⟨rfl, rfl, rfl, .inl rfl⟩
    · cases ha with
      | setCurrent => exact ⟨rfl, rfl, rfl, .inl rfl⟩
      | setCurrentRange => exact ⟨rfl, rfl, rfl, .inr ⟨rfl, rfl, rfl, rfl⟩⟩
  · rcases exec_command_cases rfl h with rfl | ha
    · exact ⟨rfl, rfl, rfl, rfl⟩
    · cases ha
      exact ⟨rfl, rfl, rfl, rfl⟩

/-! ### The idle block -/

/-- R165: an idle block waits while no word is presented. -/
theorem step_of_no_command {s : State} (hr : s.resetReq = false) (hb : s.busy = false) (hp : s.port = []) :
    step s = .next s := by
  simp [step, fetch, hr, hb, fetchCommand_of_nil hp]

/-- R166: an idle block answers a reserved opcode. -/
theorem step_of_reservedCommand {s : State} {w : CmdWord} {rest : List CmdWord} {why : Reject}
    (hr : s.resetReq = false) (hb : s.busy = false) (hp : s.port = w :: rest) (hd : decodeCmdWord w = .reject why) :
    step s = .next { s with port := rest, status := .illegalCmd } := by
  simp [step, fetch, hr, hb, fetchCommand_of_reserved hp hd]

/-- R84: the reserved opcodes. -/
theorem decodeCmdWord_of_reserved {w : CmdWord}
    (h : cmdOp w = 0b000 ∨ cmdOp w = 0b101 ∨ cmdOp w = 0b110 ∨ cmdOp w = 0b111) :
    decodeCmdWord w = .reject .reservedOpcode := by
  rcases h with h | h | h | h <;> simp [decodeCmdWord, h]

/-- Settles O11. -/
theorem reservedOpcodeOnlySetsStatus : Obligations.ReservedOpcodeOnlySetsStatus :=
  fun _ _ _ hr hb hp hop => step_of_reservedCommand hr hb hp (decodeCmdWord_of_reserved hop)

/-- Settles O10: of what an idle block does only an acceptance touches the trace. -/
theorem idleBlockTouchesNoTransport : Obligations.IdleBlockTouchesNoTransport := by
  refine ⟨fun _ => step_of_no_command, fun s t hr hb h => ?_⟩
  cases stepCase_of_step h with
  | reset hreq => simp [hr] at hreq
  | micro i _ hbusy => simp [hb] at hbusy
  | wait | illegal => exact ⟨rfl, rfl, .inl rfl⟩
  | accept w rest i _ _ _ _ ha =>
    obtain ⟨hanswers, hdraws, htrace⟩ := ha.transport
    exact ⟨hanswers, hdraws, .inr htrace⟩

/-! ### The port while a script runs -/

/-- R31: the block with other words at its port. -/
def State.withPort (s : State) (p : List CmdWord) : State := { s with port := p }

section Port

variable (s : State) (p : List CmdWord)

/-- R146: `Advance()` does not look at the port. -/
theorem State.advance_withPort : (s.withPort p).advance = s.advance.withPort p := by
  by_cases hten : s.step = 10
  · rw [State.advance_of_last hten, State.advance_of_last (s := s.withPort p) hten]
    by_cases hstop : s.script = .stop
    · rw [State.finish_of_stop hstop, State.finish_of_stop (s := s.withPort p) hstop]
      rfl
    · rw [State.finish_of_ne_stop hstop, State.finish_of_ne_stop (s := s.withPort p) hstop]
      rfl
  · rw [State.advance_of_ne hten, State.advance_of_ne (s := s.withPort p) hten]
    rfl

/-- R52: a read does not look at the port. -/
theorem State.txRead_withPort : (s.withPort p).txRead = (s.txRead.1, s.txRead.2.withPort p) := by
  cases ha : s.answers <;> simp [State.txRead, State.nextAnswer, State.withPort, State.emit, ha]

/-- R137: the read of an ACK does not look at the port. -/
theorem State.readAndDiscard_withPort : (s.withPort p).readAndDiscard = s.readAndDiscard.withPort p := by
  rw [State.readAndDiscard, State.txRead_withPort, State.advance_withPort, State.readAndDiscard]

/-- R140: what a POLL does with an answer does not depend on the port. -/
theorem State.pollAnswer_withPort (e : Byte) (a : Answer) :
    (s.withPort p).pollAnswer e a = (s.pollAnswer e a).withPort p := by
  by_cases hends : s.pollEnds e a
  · rw [State.pollAnswer_of_ends hends, State.pollAnswer_of_ends (s := s.withPort p) hends, State.advance_withPort]
  · rw [State.pollAnswer_of_not_ends hends, State.pollAnswer_of_not_ends (s := s.withPort p) hends]
    rfl

/-- R142: what a CAPTURE does with an answer does not depend on the port. -/
theorem State.captureAnswer_withPort (k : Fin 3) (a : Answer) :
    (s.withPort p).captureAnswer k a = (s.captureAnswer k a).withPort p := by
  cases a <;> rfl

variable {s} {t : State}

/-- R164: a step kind does not look at the port and leaves it. -/
theorem exec_withPort {i : Instr} (hi : i.isStep = true) (h : exec i s = .next t) :
    exec i (s.withPort p) = .next (t.withPort p) := by
  cases i with
  | ack b =>
    simp only [exec, execAck] at h
    split at h <;> cases h
    case h_2 hb hp => exact exec_ack_write (s := s.withPort p) b hb hp
    case h_3 hb hp =>
      rw [exec_ack_read (s := s.withPort p) b hb hp, State.readAndDiscard_withPort]
  | ackp k =>
    simp only [exec, execAckp] at h
    split at h <;> cases h
    case h_2 hb hp => exact exec_ackp_write (s := s.withPort p) k hb hp
    case h_3 hb hp =>
      rw [exec_ackp_read (s := s.withPort p) k hb hp, State.readAndDiscard_withPort]
  | poll b e =>
    simp only [exec, execPoll] at h
    split at h <;> cases h
    case h_2 hb hp => exact exec_poll_write (s := s.withPort p) b e hb hp
    case h_3 hb hp =>
      rw [exec_poll_read (s := s.withPort p) b e hb hp, State.pollRead, State.txRead_withPort,
        State.pollAnswer_withPort]
      rfl
  | write b =>
    simp only [exec, execWrite] at h
    split at h <;> cases h
    case h_2 hb hp =>
      rw [exec_write_write (s := s.withPort p) b hb hp]
      exact congrArg _ (State.advance_withPort (s.txWrite b) p)
  | capture k =>
    simp only [exec, execCapture] at h
    split at h <;> cases h
    case h_3 hb hp =>
      rw [exec_capture_read (s := s.withPort p) k hb hp, State.captureRead, State.txRead_withPort,
        State.captureAnswer_withPort]
      rfl
    case h_4 hb hp =>
      rw [exec_capture_echo (s := s.withPort p) k hb hp]
      exact congrArg _ (State.advance_withPort (s.txWrite (s.captured k)) p)
  | encode _ | decode _ _ _ _ | setCurrent _ | stopQuery _ => cases hi

/-- R136, R164: the step of a running script does not look at the port and leaves it. -/
theorem step_withPort (hr : s.resetReq = false) (hb : s.busy = true) (h : step s = .next t) :
    step (s.withPort p) = .next (t.withPort p) := by
  cases stepCase_of_step h with
  | reset hreq => simp [hr] at hreq
  | wait _ hidle | illegal _ _ _ _ hidle | accept _ _ _ _ hidle => simp [hb] at hidle
  | micro i _ _ hi _ =>
    obtain ⟨w, -, hw⟩ := State.word_of_currentStep hi
    rw [step_of_currentStep hr hi] at h
    rw [step_of_currentStep (s := s.withPort p) hr hi]
    exact exec_withPort p (isStep_of_decodeStepWord hw) h

end Port

/-- Settles O12. -/
theorem commandsAcceptedOnlyWhenIdle : Obligations.CommandsAcceptedOnlyWhenIdle := by
  refine ⟨fun i s => exec_command_of_busy, fun i s hi hb => ?_, fun s t p => step_withPort p⟩
  obtain ⟨t, ht⟩ := exec_of_command hi s
  obtain ⟨hanswers, hdraws, htrace⟩ := (accepted_of_exec hi hb ht).transport
  exact ⟨t, ht, hanswers, hdraws, .inr htrace⟩

end Sys2Proof.Machine

/-! ## The host's side: the result of a stop-and-query, and the pulse -/

namespace Sys2Proof.Machine

/-! ### The result port -/

section QueryResult

variable {s : State}

/-- R249: no result while a script runs. -/
theorem queryResult_of_busy (hb : s.busy = true) : s.resultPort.queryResult = none := if_pos hb

/-- R167: the result of a query that ended with `OK`: 17 bits hold the whole Reading. -/
theorem queryResult_of_ok (hb : s.busy = false) (hst : s.status = .ok) :
    s.resultPort.queryResult = some (.reading (fieldDmt s.reading)) := by
  simp [ResultPort.queryResult, State.resultPort, hb, hst, Status.code, fieldDmtBits_toInt]

/-- R29: a failure code is not that of `OK`. -/
theorem Status.code_queryFail_ne_zero (k : Fin 3) : (Status.queryFail k).code ≠ 0 := by
  revert k
  decide

/-- R167: the result of a query that failed at the CAPTURE `k`. -/
theorem queryResult_of_queryFail {k : Fin 3} (hb : s.busy = false) (hst : s.status = .queryFail k) :
    s.resultPort.queryResult = some (.failure (BitVec.ofNat 3 (k.val + 1))) := by
  have hcode := Status.code_queryFail_ne_zero k
  simp only [ResultPort.queryResult, State.resultPort, hb, hst, Bool.false_eq_true, if_false, if_neg hcode]
  rfl

end QueryResult

/-- R147: the Reading the stop script delivers. -/
theorem State.finish_reading {s : State} (h : s.script = .stop) :
    s.finish.reading = fieldDecode s.cap[0] s.cap[1] s.cap[2] := by
  rw [State.finish_of_stop h]
  rfl

/-- Settles O59. -/
theorem queryResultAtTheEndOfAStopQuery : Obligations.QueryResultAtTheEndOfAStopQuery := by
  refine ⟨fun s t h hr hstop hstep ht => ⟨fun hok => ?_, fun k => queryResult_of_queryFail ht⟩,
    fun s => queryResult_of_busy⟩
  have hb : s.busy = true := (State.busy_iff s).2 (by simp [hstop])
  rw [queryResult_of_ok ht hok]
  obtain ⟨i, -, -, ⟨-, -, -, a, rfl⟩ | ⟨k, -, -, rfl⟩⟩ := step_ends_script h hr hb hstep ht
  · rw [State.finish_reading (s := s.consume a) hstop, State.consume_cap]
  · cases hok

/-! ### The pulse -/

/-- R87 (b): the word of a stop-and-query. -/
theorem facadeStopAndQuery_eq : facadeStopAndQuery = [packCmd 0b100#3 0] := rfl

/-- R87 (c): the words of a pulse. -/
theorem facadePulse_eq (ma : BitVec 32) : facadePulse ma = packCmd 0b011#3 ma :: facadeStopAndQuery := rfl

/-- R79: the word of SET_CURRENT decodes to it. -/
theorem decodeCmdWord_setCurrent (ma : BitVec 32) :
    decodeCmdWord (packCmd 0b011#3 ma) = .instr (.setCurrent ma) :=
  decodeOfEncodeIsTheInstruction (.setCurrent ma)

/-- R79: the word of STOP_QUERY decodes to it. -/
theorem decodeCmdWord_stopQuery (ign : BitVec 32) :
    decodeCmdWord (packCmd 0b100#3 ign) = .instr (.stopQuery ign) :=
  decodeOfEncodeIsTheInstruction (.stopQuery ign)

/-- R31: the words queued at an empty port. -/
theorem State.queue_port_of_nil {s : State} (h : s.port = []) (ws : List CmdWord) : (s.queue ws).port = ws := by
  rw [State.queue, h, List.nil_append]

/-- Settles O60: SET_CURRENT is taken in range or out of range, and STOP_QUERY in either case. -/
theorem pulseIsTheTwoCommandsBackToBack : Obligations.PulseIsTheTwoCommandsBackToBack := by
  refine ⟨fun ma s hr hb hp => ?_, fun s hr hb hp => ?_⟩
  · have hstep := step_of_command (s := s.queue (facadePulse ma)) hr hb
      ((State.queue_port_of_nil hp _).trans (facadePulse_eq ma)) (decodeCmdWord_setCurrent ma)
    by_cases hin : -202206 ≤ ma.toInt ∧ ma.toInt ≤ 202206
    · refine ⟨_, hstep.trans (exec_of_accepted hb (.setCurrent ma _ (encodeCurrent_of_inRange hin))), rfl, rfl, rfl,
        fun _ => ⟨rfl, rfl, rfl⟩, fun hout => absurd hin hout⟩
    · have hrange := encodeCurrent_of_outOfRange (ma := ma) (by omega)
      exact ⟨_, hstep.trans (exec_of_accepted hb (.setCurrentRange ma hrange)), rfl, rfl, rfl,
        fun h => absurd h hin, fun _ => ⟨(State.not_busy_iff s).1 hb, rfl⟩⟩
  · have hstep := step_of_command hr hb (hp.trans facadeStopAndQuery_eq) (decodeCmdWord_stopQuery 0)
    exact ⟨_, hstep.trans (exec_of_accepted hb (.stopQuery 0)), rfl, rfl, rfl, rfl, rfl, rfl, rfl⟩

end Sys2Proof.Machine

/-! ## The validator and the sequencer go together

R186: from where the validator stands at the sequencer's place, every micro-step of the sequencer makes an event the
validator accepts, and the validator's move leads to where the sequencer is then. One relation between the two,
`Tracks`, serves both directions of R186; it says nothing of the registers that an earlier command left. -/

namespace Sys2Proof.Machine

/-! ### The validator's moves -/

section Moves

variable {inp : ValidatorInput} {v : ValidatorState} {i : Instr} {ev : Event} {m : ValidatorMove}

/-- R182: the rows of `Accepts` are moves of the validator. -/
theorem validatorMove_of_accepts (hi : romStep inp.script v.step.val = some i) (h : Accepts inp v i ev m) :
    validatorMove inp v ev = m := by
  have hword : (Rom.contents.word inp.script v.step.val).map decodeStepWord = some (.instr i) := by
    obtain ⟨w, hw, hd⟩ := Option.bind_eq_some_iff.1 hi
    cases hi' : decodeStepWord w <;> simp_all [Decoded.toOption]
  cases h with
  | ackWrite b hp | ackpWrite k hp => simp [validatorMove, hword, validatorAck, hp]
  | ackRead b a hp | ackpRead k a hp => cases a <;> simp [validatorMove, hword, validatorAck, hp, answerEvent]
  | pollWrite b e hp => simp [validatorMove, hword, validatorPoll, hp]
  | pollStay b e x hp hx hb => simp [validatorMove, hword, validatorPoll, hp, answerEvent, hx, hb]
  | pollEnd b e a hp hends =>
    cases a with
    | timeout => simp [validatorMove, hword, validatorPoll, hp, answerEvent]
    | byte x =>
      by_cases hx : x = e
      · simp [validatorMove, hword, validatorPoll, hp, answerEvent, hx]
      · simp [validatorMove, hword, validatorPoll, hp, answerEvent, hends x rfl hx]
  | write b hp => simp [validatorMove, hword, validatorWrite, hp]
  | captureByte k x hp | captureTimeout k hp => simp [validatorMove, hword, validatorCapture, hp, answerEvent]
  | captureEcho k hp => simp [validatorMove, hword, validatorCapture, hp]

/-- R182: `Advance` at the last step. -/
theorem validatorAdvance_of_last (h : v.step = 10) :
    validatorAdvance inp v = .stop (.completeOk (if inp.script = .stop then some v.c else none)) := if_pos h

/-- R182: `Advance` before the last step. -/
theorem validatorAdvance_of_ne (h : v.step ≠ 10) :
    validatorAdvance inp v = .go { v with
      phase := entryPhase (Rom.contents.word inp.script (v.step.val + 1)), step := v.step + 1 } := if_neg h

/-- R182: in phase R the validator accepts answers, in the others the one byte of the step. -/
theorem Accepts.event (h : Accepts inp v i ev m) :
    (v.phase = .r ∧ ∃ a, ev = answerEvent a) ∨
      (v.phase ≠ .r ∧ ∃ b, stepBytes inp.payload v.c i = [b] ∧ ev = .wrote b) := by
  cases h with
  | ackWrite _ hp | ackpWrite _ hp | pollWrite _ _ hp | write _ hp | captureEcho _ hp =>
    exact .inr ⟨by simp [hp], _, rfl, rfl⟩
  | ackRead _ a hp | ackpRead _ a hp | pollEnd _ _ a hp => exact .inl ⟨hp, a, rfl⟩
  | pollStay _ _ x hp | captureByte _ x hp => exact .inl ⟨hp, .byte x, rfl⟩
  | captureTimeout _ hp => exact .inl ⟨hp, .timeout, rfl⟩

/-- R136, R182: the validator accepts events only in the phases a step has. -/
theorem Accepts.phaseFits (h : Accepts inp v i ev m) : phaseFits i v.phase = true := by
  cases h <;> simp_all [Machine.phaseFits]

end Moves

/-! ### Where the sequencer stands -/

section Place

variable {s : State} {i : Instr} {sc : Script} {k : Nat}

/-- R146: the entry phase of a step of a script. -/
theorem entryPhase_of_romStep (h : romStep sc k = some i) :
    entryPhase (Rom.contents.word sc k) = stepEntryPhase i := by
  obtain ⟨w, hw, hd⟩ := Option.bind_eq_some_iff.1 h
  cases hi : decodeStepWord w with
  | reject why => simp [hi, Decoded.toOption] at hd
  | instr j =>
    simp only [hi, Decoded.toOption, Option.some.injEq] at hd
    rw [hw, entryPhase_of_decode hi, hd]

/-- R140: the block polls in the reads of a POLL. -/
theorem State.polling_iff : s.polling = true ↔ (∃ b e, s.currentStep = some (.poll b e)) ∧ s.phase = .r := by
  unfold State.polling
  split
  case h_1 b e hi hp => simp [hi, hp]
  case h_2 hno =>
    simp only [Bool.false_eq_true, false_iff]
    rintro ⟨⟨b, e, hi⟩, hp⟩
    exact hno b e hi hp

/-- R140: at a step that is no POLL the block does not poll. -/
theorem State.polling_of_not_poll (hi : s.currentStep = some i) (hne : ∀ b e, i ≠ .poll b e) :
    s.polling ≠ true := by
  rw [Ne, State.polling_iff, hi]
  rintro ⟨⟨b, e, heq⟩, -⟩
  exact hne b e (Option.some.inj heq)

/-- R139, R146: a step that is being entered does not poll yet. -/
theorem State.polling_advance (hrom : s.rom = Rom.contents) (hten : s.step ≠ 10) : s.advance.polling ≠ true := by
  rw [Ne, State.polling_iff, State.currentStep_advance hrom hten, State.advance_of_ne hten, hrom]
  rintro ⟨⟨b, e, hi⟩, hp⟩
  rw [entryPhase_of_romStep hi] at hp
  cases hp

end Place

/-- R28: where the poll counter exists, what it held before a write makes no difference. -/
theorem pollCntAfter_eq_of_ne_none {bound : Option PollBound} (h : bound ≠ none) {old old' n : Nat} :
    pollCntAfter bound old n = pollCntAfter bound old' n := by
  rw [pollCntAfter_of_ne_none h, pollCntAfter_of_ne_none h]

/-- R28: where the poll counter does not exist it stays 0. -/
theorem pollCntAfter_of_none {bound : Option PollBound} (h : bound = none) {old n : Nat} (hold : old = 0) :
    pollCntAfter bound old n = 0 := by
  rw [h, pollCntAfter_none, hold]

/-- R144: only where there is a bound does it matter what the poll counter holds. -/
theorem pollBoundReached_congr {bound : Option PollBound} {c c' : Nat} (h : bound ≠ none → c = c') :
    pollBoundReached bound c = pollBoundReached bound c' := by
  cases bound with
  | none => rfl
  | some n => rw [h (by simp)]

/-! ### One micro-step of both -/

/-- R181, R186: the validator stands where the sequencer stands, and knows what the current step still uses: the
counter of a POLL, where there is a bound, and the byte a CAPTURE is about to echo. -/
structure Tracks (v : ValidatorState) (s : State) : Prop where
  rom : s.rom = Rom.contents
  step : v.step = s.step
  phase : v.phase = s.phase
  pollCnt : s.polling = true → s.pollMaxReads ≠ none → v.pollCnt = s.pollCnt
  noBound : s.pollMaxReads = none → v.pollCnt = 0
  echo : ∀ k, s.phase = .e → s.currentStep = some (.capture k) → v.c[k] = s.cap[k]

/-- R22, R181: the validator has the bytes of the capture registers that are valid. -/
def CapturesAgree (v : ValidatorState) (s : State) : Prop :=
  s.script = .stop → ∀ j : Fin 3, s.capValid[j] = true → v.c[j] = s.cap[j]

/-- R186: the validator's move from `v` leads to where the step from `s` to `t` leads: on, with the script, or to the
verdict of its end. -/
def Follows (v : ValidatorState) (s t : State) : ValidatorMove → Prop
  | .go v' => t.busy = true ∧ Tracks v' t ∧ (CapturesAgree v s → CapturesAgree v' t)
  | .stop verdict => t.busy = false ∧ verdict.status = some t.status ∧
      (s.script = .stop → t.status = .ok → verdict = .completeOk (some v.c) ∧ t.cap = s.cap ∧
        t.reading = fieldDecode s.cap[0] s.cap[1] s.cap[2])
  | .bad _ => False

namespace Tracks

variable {v : ValidatorState} {s : State} {i : Instr} {k : Fin 3}

/-- R146, R147, R182: the two `Advance`s lead to the same place or to the same end. -/
theorem advance (hv : Tracks v s) (hb : s.busy = true) :
    Follows v s s.advance (validatorAdvance s.validatorInput v) := by
  by_cases hten : s.step = 10
  · rw [validatorAdvance_of_last (hv.step.trans hten), State.advance_of_last hten]
    refine ⟨rfl, rfl, fun hstop _ => ⟨?_, ?_, State.finish_reading hstop⟩⟩
    · rw [if_pos (show s.validatorInput.script = .stop from hstop)]
    · rw [← State.advance_of_last hten, State.advance_cap]
  · rw [validatorAdvance_of_ne (hv.step ▸ hten)]
    have hpoll := State.polling_advance hv.rom hten
    rw [State.advance_of_ne hten] at hpoll ⊢
    refine ⟨hb, ⟨hv.rom, ?_, ?_, fun h => absurd h hpoll, hv.noBound, fun _ h => absurd h (entryPhase_ne_e _)⟩, id⟩
    · exact congrArg (· + 1) hv.step
    · rw [hv.rom, hv.step]
      rfl

/-- R137, R138: a step that is no POLL turns to its read. -/
theorem writeThenRead (hv : Tracks v s) (hb : s.busy = true) (hi : s.currentStep = some i)
    (hne : ∀ b e, i ≠ .poll b e) (b : Byte) : Follows v s (s.writeThenRead b) (.go { v with phase := .r }) :=
  ⟨hb, ⟨hv.rom, hv.step, rfl, fun h => absurd h (State.polling_of_not_poll hi hne), hv.noBound, nofun⟩, id⟩

/-- R142: the byte a CAPTURE reads is captured by both. -/
theorem captureByte (hv : Tracks v s) (hi : s.currentStep = some (.capture k)) (x : Byte) :
    Follows v s { ((s.consume (.byte x)).setCaptured k x).setValid k with phase := .e }
      (.go { v with c := v.c.set k x, nc := v.nc + 1, phase := .e }) := by
  refine ⟨State.busy_of_currentStep hi, ⟨hv.rom, hv.step, rfl, fun h => ?_, hv.noBound, fun j _ hj => ?_⟩,
    fun hc hstop j hj => ?_⟩
  · exact absurd h (State.polling_of_not_poll hi nofun)
  · cases Option.some.inj (hj.symm.trans hi)
    exact (Vector.getElem_set_self _).trans (Vector.getElem_set_self _).symm
  · have hc := hc hstop j
    simp only [State.setValid_cap, State.setValid_capValid, State.setCaptured_cap, State.setCaptured_capValid,
      State.consume_cap, State.consume_capValid, Fin.getElem_fin, Vector.getElem_set] at hc hj ⊢
    split
    · rfl
    case isFalse hne => exact hc (by rwa [if_neg hne] at hj)

end Tracks

/-- R186: a micro-step of the sequencer makes an event the validator accepts, and the validator follows it. -/
theorem MicroStep.follows {v : ValidatorState} {s t : State} {i : Instr} (hm : MicroStep i s t)
    (hi : s.currentStep = some i) (hv : Tracks v s) :
    ∃ ev m, t.trace = s.trace ++ [ev] ∧ Accepts s.validatorInput v i ev m ∧ Follows v s t m := by
  have hb := State.busy_of_currentStep hi
  have hread (a : Answer) : Tracks v (s.consume a) :=
    ⟨hv.rom, hv.step, hv.phase, hv.pollCnt, hv.noBound, hv.echo⟩
  have hwrite (b : Byte) : Tracks v (s.txWrite b) :=
    ⟨hv.rom, hv.step, hv.phase, hv.pollCnt, hv.noBound, hv.echo⟩
  have hreached (hp : s.phase = .r) {b e : Byte} (hpoll : i = .poll b e) :
      pollBoundReached s.pollMaxReads v.pollCnt = pollBoundReached s.pollMaxReads s.pollCnt :=
    pollBoundReached_congr (hv.pollCnt (State.polling_iff.2 ⟨⟨b, e, hpoll ▸ hi⟩, hp⟩))
  cases hm with
  | ackWrite b hp =>
    exact ⟨.wrote b, _, rfl, .ackWrite b (hv.phase.trans hp), hv.writeThenRead hb hi nofun b⟩
  | ackpWrite k hp =>
    exact ⟨.wrote (s.payload k), _, rfl, .ackpWrite k (hv.phase.trans hp), hv.writeThenRead hb hi nofun _⟩
  | ackRead b a hp =>
    exact ⟨answerEvent a, _, State.advance_trace _, .ackRead b a (hv.phase.trans hp), (hread a).advance hb⟩
  | ackpRead k a hp =>
    exact ⟨answerEvent a, _, State.advance_trace _, .ackpRead k a (hv.phase.trans hp), (hread a).advance hb⟩
  | pollWrite b e hp =>
    refine ⟨.wrote b, _, rfl, .pollWrite b e (hv.phase.trans hp), hb,
      ⟨hv.rom, hv.step, rfl, fun _ hbound => ?_, fun hnone => ?_, nofun⟩, id⟩
    · exact pollCntAfter_eq_of_ne_none hbound
    · exact pollCntAfter_of_none hnone (hv.noBound hnone)
  | pollEnd b e a hp _ hends =>
    refine ⟨answerEvent a, _, State.advance_trace _, .pollEnd b e a (hv.phase.trans hp) fun x hx hne => ?_,
      (hread a).advance hb⟩
    exact (hreached hp rfl).trans (hends x hx hne)
  | pollStay b e x hp _ hx hstay =>
    refine ⟨answerEvent (.byte x), _, rfl,
      .pollStay b e x (hv.phase.trans hp) hx ((hreached hp rfl).trans hstay), hb,
      ⟨hv.rom, hv.step, hv.phase, fun hpoll hbound => ?_, fun hnone => ?_, hv.echo⟩, id⟩
    · rw [show v.pollCnt = s.pollCnt from hv.pollCnt hpoll hbound]
      exact pollCntAfter_eq_of_ne_none hbound
    · exact pollCntAfter_of_none hnone (hv.noBound hnone)
  | write b hp =>
    exact ⟨.wrote b, _, State.advance_trace _, .write b (hv.phase.trans hp), (hwrite b).advance hb⟩
  | captureByte k x hp =>
    exact ⟨answerEvent (.byte x), _, rfl, .captureByte k x (hv.phase.trans hp), hv.captureByte hi x⟩
  | captureTimeout k hp =>
    exact ⟨answerEvent .timeout, _, rfl, .captureTimeout k (hv.phase.trans hp), rfl, rfl, nofun⟩
  | captureEcho k hp =>
    have hecho : v.c[k] = s.captured k := hv.echo k hp hi
    refine ⟨.wrote v.c[k], _, ?_, .captureEcho k (hv.phase.trans hp), ?_⟩
    · rw [hecho]
      exact State.advance_trace _
    · exact (hwrite (s.captured k)).advance hb

/-! ### Soundness: the trace of a running command conforms -/

/-- R182: an event the validator moves on with. -/
theorem validatorRun_append_live {inp : ValidatorInput} {tr : List Event} {v : ValidatorState} {n : Nat}
    (h : validatorRun inp tr = .live v n) (ev : Event) :
    validatorRun inp (tr ++ [ev]) = validatorFeed inp (.live v n) ev := by
  rw [validatorRun, List.foldl_append, ← validatorRun, h]
  rfl

/-- R180: a micro-step after which the script still runs changes no input of the validator. -/
theorem MicroStep.validatorInput {i : Instr} {s t : State} (h : MicroStep i s t) (hb : t.busy = true) :
    t.validatorInput = s.validatorInput := by
  obtain ⟨hpay, -, hbound⟩ := h.keeps
  obtain ⟨-, -, -, hscript⟩ := h.results_of_busy hb
  rw [State.validatorInput, State.validatorInput, hpay, hbound, hscript]

/-- R186: in a legal running block the validator that stands for the registers tracks the script. -/
theorem Mirrors.tracks {v : ValidatorState} {s : State} (hv : Mirrors v s) (h : s.Legal) : Tracks v s where
  rom := h.rom
  step := hv.step
  phase := hv.phase
  pollCnt hpoll _ := hv.pollCnt hpoll
  noBound := hv.noBound
  echo k hp hi := by
    obtain ⟨hstop, hstep⟩ := h.at_capture hi
    exact hv.captured hstop k ((h.valid hstop k).trans ((State.hasCaptured_iff s k).2 (.inr ⟨hstep, hp⟩)))

/-- R186: in a legal block a validator that tracks the script, and has the captured bytes, stands for the registers. -/
theorem Tracks.mirrors {v : ValidatorState} {s : State} (hv : Tracks v s) (hc : CapturesAgree v s) (h : s.Legal) :
    Mirrors v s where
  step := hv.step
  phase := hv.phase
  pollCnt hpoll := by
    cases hbound : s.pollMaxReads with
    | some n => exact hv.pollCnt hpoll (by simp [hbound])
    | none =>
      have hzero := h.pollCnt
      rw [hbound] at hzero
      exact (hv.noBound hbound).trans hzero.symm
  noBound := hv.noBound
  captured := hc

/-- R186 (a): the micro-step of a block whose trace conforms, and what the validator does with its event. -/
theorem MicroStep.validatorMove {s t : State} {i : Instr} {v : ValidatorState} (hm : MicroStep i s t)
    (h : s.Legal) (hi : s.currentStep = some i) (hv : Mirrors v s) :
    ∃ ev, t.trace = s.trace ++ [ev] ∧ Follows v s t (validatorMove s.validatorInput v ev) := by
  obtain ⟨ev, m, htrace, hacc, hfollows⟩ := hm.follows hi (hv.tracks h)
  have hrom : romStep s.validatorInput.script v.step.val = some i := by
    rw [hv.step, ← hi, State.currentStep_eq_romStep s h.rom]
    rfl
  exact ⟨ev, htrace, (validatorMove_of_accepts hrom hacc).symm ▸ hfollows⟩

/-- R186 (a): a micro-step keeps the trace conforming. -/
theorem State.TraceConforms.microStep {s t : State} {i : Instr} (hconf : s.TraceConforms) (h : s.Legal)
    (hi : s.currentStep = some i) (hm : MicroStep i s t) : t.TraceConforms := by
  intro ht
  have hb := State.busy_of_currentStep hi
  obtain ⟨v, hrun, hv⟩ := hconf hb
  obtain ⟨ev, htrace, hfollows⟩ := hm.validatorMove h hi hv
  cases hmove : Machine.validatorMove s.validatorInput v ev with
  | go v' =>
    rw [hmove] at hfollows
    obtain ⟨-, htracks, hcaptures⟩ := hfollows
    refine ⟨v', ?_, htracks.mirrors (hcaptures hv.captured) (h.microStep hb hi hm)⟩
    rw [hm.validatorInput ht, htrace, validatorRun_append_live hrun, validatorFeed, hmove, List.length_append]
    rfl
  | stop verdict =>
    rw [hmove] at hfollows
    simp [hfollows.1] at ht
  | bad x =>
    rw [hmove] at hfollows
    exact hfollows.elim

/-- R181, R186 (a): the empty trace of a script that is entered with no valid capture conforms. -/
theorem traceConforms_of_enter {t : State} (htrace : t.trace = []) (hstep : t.step = 1) (hphase : t.phase = .w)
    (hvalid : t.script = .stop → t.capValid = #v[false, false, false]) : t.TraceConforms := by
  refine fun _ => ⟨validatorInit, by rw [htrace]; rfl, hstep.symm, hphase.symm, fun hpoll => ?_, fun _ => rfl,
    fun hstop j hj => ?_⟩
  · simp [State.polling_iff, hphase] at hpoll
  · rw [hvalid hstop, clearFlags_getElem] at hj
    cases hj

/-- R186 (a): the trace of an accepted command conforms. -/
theorem Accepted.traceConforms {s t : State} {i : Instr} (h : Accepted i s t) (hb : s.busy = false) :
    t.TraceConforms := by
  have hidle {u : State} (hscript : u.script = s.script) : u.TraceConforms := fun hu => by
    rw [State.busy_iff, hscript, ← State.busy_iff, hb] at hu
    cases hu
  cases h with
  | encode | encodeRange | decode | setCurrentRange => exact hidle rfl
  | setCurrent => exact traceConforms_of_enter rfl rfl rfl nofun
  | stopQuery => exact traceConforms_of_enter rfl rfl rfl fun _ => rfl

/-- Settles O52: each case of a step keeps the trace conforming. -/
theorem stepKeepsTraceConforming : Obligations.StepKeepsTraceConforming := by
  intro s t h hconf hstep
  cases stepCase_of_step hstep with
  | reset => exact nofun
  | micro i _ _ hi hm => exact hconf.microStep h hi hm
  | wait => exact hconf
  | illegal w rest why _ hb => exact fun ht => absurd ht (by simp_all [State.busy])
  | accept w rest i _ hb _ _ ha => exact ha.traceConforms hb

/-- Settles O53: the validator follows the micro-step that ends the script. -/
theorem finishedTraceHasTheSequencersVerdict : Obligations.FinishedTraceHasTheSequencersVerdict := by
  intro s t h hconf hr hb hstep ht
  obtain ⟨v, hrun, hv⟩ := hconf hb
  obtain ⟨i, hi, hm, -⟩ := step_ends_script h hr hb hstep ht
  obtain ⟨ev, htrace, hfollows⟩ := hm.validatorMove h hi hv
  rw [htrace, validate, validatorRun_append_live hrun, validatorFeed]
  cases hmove : Machine.validatorMove s.validatorInput v ev with
  | go v' =>
    rw [hmove] at hfollows
    simp [hfollows.1] at ht
  | stop verdict =>
    rw [hmove] at hfollows
    obtain ⟨-, hstatus, hfinish⟩ := hfollows
    refine ⟨hstatus, fun hstop hok => ?_⟩
    obtain ⟨hverdict, hcap, hreading⟩ := hfinish hstop hok
    have hten : s.step = 10 := by
      rcases scriptEndsAtStepTenOrAtACaptureTimeout s t h hr hb hstep ht with ⟨hten, -⟩ | ⟨k, -, -, hfail, -⟩
      · exact hten
      · rw [hok] at hfail
        cases hfail
    rw [hv.captured_at_ten h hstop hten] at hverdict
    rw [ValidatorRun.verdict, hverdict, hcap, hreading]
    exact ⟨rfl, rfl⟩
  | bad x =>
    rw [hmove] at hfollows
    exact hfollows.elim

/-! ### Completeness: a trace that is not rejected is produced -/

/-- R182: after a violation no event mends the trace. -/
theorem validatorFeed_foldl_violated (inp : ValidatorInput) (tr : List Event) (n : Nat) (x : Expected) :
    tr.foldl (validatorFeed inp) (.violated n x) = .violated n x := by
  induction tr with
  | nil => rfl
  | cons ev tr ih => exact ih

/-- R182: after the end of the script any further event is a violation. -/
theorem validatorFeed_foldl_stopped (inp : ValidatorInput) (ev : Event) (tr : List Event) (V : Verdict) (n : Nat) :
    (ev :: tr).foldl (validatorFeed inp) (.stopped V n) = .violated (n + 1) .nothing :=
  validatorFeed_foldl_violated inp tr (n + 1) .nothing

/-- R186 (b): the answer read off an answer event. -/
@[simp] theorem answersOf_answer (a : Answer) (tr : List Event) :
    answersOf (answerEvent a :: tr) = a :: answersOf tr := by
  cases a <;> rfl

/-- R186 (b): with the answers read off a trace, the sequencer makes the event the validator accepts next. -/
theorem Tracks.produces {v : ValidatorState} {s : State} {i : Instr} {ev : Event} {tr : List Event}
    {m : ValidatorMove} (hv : Tracks v s) (hr : s.resetReq = false) (hi : romStep s.script v.step.val = some i)
    (hacc : Accepts s.validatorInput v i ev m) (ha : s.answers = answersOf (ev :: tr)) :
    ∃ t, Machine.step s = .next t ∧ MicroStep i s t ∧ t.trace = s.trace ++ [ev] ∧ t.answers = answersOf tr ∧
      Follows v s t m := by
  have hi' : s.currentStep = some i := by rw [State.currentStep_eq_romStep s hv.rom, ← hv.step, hi]
  obtain ⟨w, -, hw⟩ := State.word_of_currentStep hi'
  obtain ⟨t, ht⟩ := exec_of_phaseFits (State.busy_of_currentStep hi') (hv.phase ▸ hacc.phaseFits)
  obtain ⟨-, hm⟩ := microStep_of_exec (isStep_of_decodeStepWord hw) ht
  obtain ⟨ev', m', htrace, hacc', hfollows⟩ := hm.follows hi' hv
  have hsame : ev' = ev ∧ t.answers = answersOf tr := by
    rcases hacc.event with ⟨hp, a, rfl⟩ | ⟨hp, b, hb, rfl⟩
    · rw [answersOf_answer] at ha
      rcases hm.primitive with ⟨-, a', hmay, htrace', htail⟩ | ⟨hne, -⟩
      · cases hmay a (by rw [ha]; rfl)
        exact ⟨List.singleton_inj.1 (List.append_cancel_left (htrace.symm.trans htrace')), by rw [htail, ha]; rfl⟩
      · exact absurd (hv.phase.symm.trans hp) hne
    · rcases hm.primitive with ⟨hread, -⟩ | ⟨-, -, -, hanswers, -⟩
      · exact absurd (hv.phase.trans hread) hp
      · rcases hacc'.event with ⟨hread, -⟩ | ⟨-, b', hb', rfl⟩
        · exact absurd hread hp
        · cases hb.symm.trans hb'
          exact ⟨rfl, hanswers.trans ha⟩
  obtain ⟨rfl, hanswers⟩ := hsame
  have hmoves := (validatorMove_of_accepts hi hacc').symm.trans (validatorMove_of_accepts hi hacc)
  exact ⟨t, (step_of_currentStep hr hi').trans ht, hm, htrace, hanswers, hmoves ▸ hfollows⟩

/-- R186 (b): from where the validator tracks it, the sequencer produces the events that the validator does not
reject. -/
theorem Tracks.run {tr : List Event} {v : ValidatorState} {s : State} {n : Nat} (hv : Tracks v s)
    (hr : s.resetReq = false) (ha : s.answers = answersOf tr)
    (hok : ∀ k x, tr.foldl (validatorFeed s.validatorInput) (.live v n) ≠ .violated k x) :
    ∃ t, Sys2Proof.core.run tr.length s = .next t ∧ t.trace = s.trace ++ tr := by
  induction tr generalizing v s n with
  | nil => exact ⟨s, rfl, (List.append_nil _).symm⟩
  | cons ev tr ih =>
    rw [List.foldl_cons, validatorFeed] at hok
    have hgood : ∀ x, validatorMove s.validatorInput v ev ≠ .bad x := fun x hbad => by
      rw [hbad] at hok
      exact hok _ _ (validatorFeed_foldl_violated _ _ _ _)
    obtain ⟨i, hi, hacc⟩ := accepts_of_validatorMove rfl hgood
    obtain ⟨t, hstep, hm, htrace, hanswers, hfollows⟩ := hv.produces hr hi hacc ha
    rw [List.length_cons, run_succ hstep, List.append_cons, ← htrace]
    cases hmove : validatorMove s.validatorInput v ev with
    | go v' =>
      rw [hmove] at hok hfollows
      obtain ⟨hb, htracks, -⟩ := hfollows
      rw [← hm.validatorInput hb] at hok
      exact ih htracks (hm.inputs.2.trans hr) hanswers hok
    | stop V =>
      rw [hmove] at hok
      cases tr with
      | nil => exact ⟨t, rfl, (List.append_nil _).symm⟩
      | cons ev' tr => exact absurd (validatorFeed_foldl_stopped _ _ _ _ _) (hok _ _)
    | bad x => exact absurd hmove (hgood x)

/-- R181: the validator in its initial state tracks a script that is entered. -/
theorem tracks_init {s : State} (hrom : s.rom = Rom.contents) (hstep : s.step = 1) (hphase : s.phase = .w) :
    Tracks validatorInit s :=
  ⟨hrom, hstep.symm, hphase.symm, fun hpoll => by simp [State.polling_iff, hphase] at hpoll, fun _ => rfl,
    fun _ he => by simp [hphase] at he⟩

/-- Settles O54. -/
theorem conformingTracesAreProduced : Obligations.ConformingTracesAreProduced := by
  intro inp tr s _ hok hscript hstep hphase hpay hbound hrom hr htrace ha
  have hinp : s.validatorInput = inp := by rw [State.validatorInput, hscript, hpay, hbound]
  have hrun : ∀ n x, validatorRun s.validatorInput tr ≠ .violated n x := fun n x hviolated =>
    hok n x (by rw [validate, ← hinp, hviolated]; rfl)
  simpa [htrace] using (tracks_init hrom hstep hphase).run hr ha hrun

end Sys2Proof.Machine

/-! ## The complete traces as languages

R184: what follows the `Advance` of each step of a script, read as a set of traces that depends on nothing of the
validator's state but the captured bytes. The language of a script is built from its last step back to its first, one
lemma for each kind of step. -/

namespace Sys2Proof.Machine

/-! ### Sets of traces -/

namespace TraceLang

variable (a b c : TraceLang)

/-- One trace after another, in any grouping. -/
theorem seq_assoc : (a.seq b).seq c = a.seq (b.seq c) := by
  funext t
  refine propext ⟨?_, ?_⟩
  · rintro ⟨-, z, rfl, ⟨x, y, rfl, hx, hy⟩, hz⟩
    exact ⟨x, y ++ z, List.append_assoc x y z, hx, y, z, rfl, hy, hz⟩
  · rintro ⟨x, -, rfl, hx, y, z, rfl, hy, hz⟩
    exact ⟨x ++ y, z, (List.append_assoc x y z).symm, ⟨x, y, rfl, hx, hy⟩, hz⟩

/-- The empty trace after others. -/
@[simp] theorem seq_nil : a.seq (concat []) = a := by
  funext t
  refine propext ⟨?_, fun h => ⟨t, [], (List.append_nil t).symm, h, rfl⟩⟩
  rintro ⟨x, -, rfl, hx, rfl⟩
  rwa [List.append_nil]

/-- The empty trace before others. -/
@[simp] theorem nil_seq : (concat []).seq a = a := by
  funext t
  refine propext ⟨?_, fun h => ⟨[], t, rfl, rfl, h⟩⟩
  rintro ⟨-, y, rfl, rfl, hy⟩
  exact hy

/-- The first of several sets, and the rest. -/
theorem concat_cons (l : List TraceLang) : concat (a :: l) = a.seq (concat l) := rfl

/-- A condition on what is no trace may be asked first. -/
theorem seq_guard (p : Prop) : a.seq (fun t => p ∧ b t) = fun t => p ∧ a.seq b t := by
  funext t
  refine propext ⟨?_, ?_⟩
  · rintro ⟨x, y, rfl, hx, hp, hy⟩
    exact ⟨hp, x, y, rfl, hx, hy⟩
  · rintro ⟨hp, x, y, rfl, hx, hy⟩
    exact ⟨x, y, rfl, hx, hp, hy⟩

end TraceLang

/-! ### The traces that follow a move -/

/-- R182, R183: the events that, after a move of the validator, lead to the end of the script with the verdict `V`. -/
def moveLang (inp : ValidatorInput) (V : Verdict) : ValidatorMove → TraceLang
  | .go v, ev :: tr => moveLang inp V (validatorMove inp v ev) tr
  | .stop V', [] => V' = V
  | _, _ => False

section MoveLang

variable {inp : ValidatorInput} {V : Verdict} {v : ValidatorState} {i : Instr} {m : ValidatorMove}

/-- R182: nothing follows the end of the script. -/
theorem moveLang_stop (V' : Verdict) (tr : List Event) : moveLang inp V (.stop V') tr ↔ V' = V ∧ tr = [] := by
  cases tr <;> simp [moveLang]

/-- R183: the traces of a complete verdict. -/
theorem verdict_eq_iff (hV : V.isComplete = true) (tr : List Event) (n : Nat) :
    (tr.foldl (validatorFeed inp) (.live v n)).verdict = V ↔ moveLang inp V (.go v) tr := by
  induction tr generalizing v n with
  | nil =>
    refine iff_of_false (fun h => ?_) id
    rw [← h] at hV
    cases hV
  | cons ev tr ih =>
    rw [List.foldl_cons, validatorFeed, moveLang]
    cases hmove : validatorMove inp v ev with
    | go v' => exact ih _
    | stop V' =>
      rw [moveLang_stop]
      cases tr with
      | nil => simp [ValidatorRun.verdict]
      | cons ev' tr =>
        refine iff_of_false (fun h => ?_) (by simp)
        rw [← h, validatorFeed_foldl_stopped] at hV
        cases hV
    | bad x =>
      refine iff_of_false (fun h => ?_) (by cases tr <;> exact id)
      rw [← h, validatorFeed_foldl_violated] at hV
      cases hV

/-- R182: the first event of a running script is one that its step accepts. -/
theorem moveLang_go (hi : romStep inp.script v.step.val = some i) (tr : List Event) :
    moveLang inp V (.go v) tr ↔
      ∃ ev tr' m, tr = ev :: tr' ∧ Accepts inp v i ev m ∧ moveLang inp V m tr' := by
  constructor
  · intro h
    cases tr with
    | nil => exact h.elim
    | cons ev tr =>
      have hgood : ∀ x, validatorMove inp v ev ≠ .bad x := fun x hbad => by
        rw [moveLang, hbad] at h
        cases tr <;> exact h.elim
      obtain ⟨i', hi', hacc⟩ := accepts_of_validatorMove rfl hgood
      cases hi.symm.trans hi'
      exact ⟨ev, tr, _, rfl, hacc, h⟩
  · rintro ⟨ev, tr', m, rfl, hacc, h⟩
    rwa [moveLang, validatorMove_of_accepts hi hacc]

/-- R182: a step that is about to write goes on after its byte. -/
theorem moveLang_of_write {b : Byte} (hi : romStep inp.script v.step.val = some i)
    (hacc : Accepts inp v i (.wrote b) m) :
    moveLang inp V (.go v) = (wroteLang b).seq (moveLang inp V m) := by
  have honly {ev : Event} {m' : ValidatorMove} (hacc' : Accepts inp v i ev m') : ev = .wrote b := by
    rcases hacc.event with ⟨-, a, ha⟩ | ⟨hp, x, hx, hb⟩
    · cases a <;> cases ha
    · rcases hacc'.event with ⟨hr, -⟩ | ⟨-, x', hx', rfl⟩
      · exact absurd hr hp
      · cases hx.symm.trans hx'
        exact hb.symm
  funext tr
  rw [moveLang_go hi]
  refine propext ⟨?_, ?_⟩
  · rintro ⟨ev, tr', m', rfl, hacc', h⟩
    cases honly hacc'
    cases (validatorMove_of_accepts hi hacc).symm.trans (validatorMove_of_accepts hi hacc')
    exact ⟨[.wrote b], tr', rfl, rfl, h⟩
  · rintro ⟨-, tr', rfl, rfl, h⟩
    exact ⟨.wrote b, tr', m, rfl, hacc, h⟩

/-- R182: a step that goes on alike after every answer. -/
theorem moveLang_of_read (hi : romStep inp.script v.step.val = some i)
    (hacc : ∀ a, Accepts inp v i (answerEvent a) m) (hp : v.phase = .r) :
    moveLang inp V (.go v) = readLang.seq (moveLang inp V m) := by
  funext tr
  rw [moveLang_go hi]
  refine propext ⟨?_, ?_⟩
  · rintro ⟨ev, tr', m', rfl, hacc', h⟩
    rcases hacc'.event with ⟨-, a, rfl⟩ | ⟨hne, -⟩
    · cases (validatorMove_of_accepts hi (hacc a)).symm.trans (validatorMove_of_accepts hi hacc')
      exact ⟨[answerEvent a], tr', rfl, ⟨a, rfl⟩, h⟩
    · exact absurd hp hne
  · rintro ⟨-, tr', rfl, ⟨a, rfl⟩, h⟩
    exact ⟨answerEvent a, tr', m, rfl, hacc a, h⟩

end MoveLang

/-! ### What follows a step -/

/-- R182: `L` is what follows the `Advance` of step `k`, as a function of the captured bytes. -/
def AfterLang (inp : ValidatorInput) (V : Verdict) (k : Nat) (L : Response → TraceLang) : Prop :=
  ∀ v : ValidatorState, v.step.val = k → moveLang inp V (validatorAdvance inp v) = L v.c

/-- R135: the steps of a script are numbered up to 10. -/
theorem romStep_le_ten {sc : Script} {k : Nat} {i : Instr} (h : romStep sc (k + 1) = some i) : k < 10 := by
  refine Nat.lt_of_not_le fun hk => ?_
  have hnone : Rom.contents.word sc (k + 1) = none := by
    cases sc with
    | idle => rfl
    | start | stop => exact Vector.getElem?_eq_none hk
  simp [romStep, hnone] at h

namespace AfterLang

variable {inp : ValidatorInput} {V : Verdict} {k : Nat} {L L' : Response → TraceLang} {i : Instr}

/-- The same language in other words. -/
theorem congr (h : AfterLang inp V k L) (hL : ∀ q tr, L q tr ↔ L' q tr) : AfterLang inp V k L' :=
  fun v hv => (h v hv).trans (funext fun tr => propext (hL v.c tr))

/-- R182: what follows step `k` is what follows from the entry of step `k + 1` on. -/
theorem of_entry (hi : romStep inp.script (k + 1) = some i)
    (h : ∀ v : ValidatorState, v.step.val = k + 1 → v.phase = stepEntryPhase i →
      moveLang inp V (.go v) = L v.c) : AfterLang inp V k L := by
  intro v hv
  have hlt := romStep_le_ten hi
  have hten : v.step ≠ 10 := fun hten => by simp [hten] at hv; omega
  obtain ⟨hstep, hphase⟩ := validatorAdvance_go (validatorAdvance_of_ne (inp := inp) hten)
  rw [validatorAdvance_of_ne hten]
  exact h _ (by rw [hstep, hv]) (by rw [hphase, hv, entryPhase_of_romStep hi])

/-- R182: after step 10 the trace is complete. -/
theorem ten : AfterLang inp V 10 fun q tr =>
    .completeOk (if inp.script = .stop then some q else none) = V ∧ tr = [] := by
  intro v hv
  rw [validatorAdvance_of_last (Fin.ext hv)]
  exact funext fun tr => propext (moveLang_stop _ tr)

/-- R182: a step that writes `b` and then reads once. -/
theorem exchange {b : Byte} (h : AfterLang inp V (k + 1) L) (hi : romStep inp.script (k + 1) = some i)
    (hentry : stepEntryPhase i = .w)
    (hwrite : ∀ v, v.phase = .w → Accepts inp v i (.wrote b) (.go { v with phase := .r }))
    (hread : ∀ v a, v.phase = .r → Accepts inp v i (answerEvent a) (validatorAdvance inp v)) :
    AfterLang inp V k fun q => (wroteLang b).seq (readLang.seq (L q)) := by
  refine of_entry hi fun v hv hp => ?_
  rw [moveLang_of_write (hv ▸ hi) (hwrite v (hp.trans hentry)),
    moveLang_of_read (v := { v with phase := .r }) (hv ▸ hi) (fun a => hread _ a rfl) rfl,
    h { v with phase := .r } hv]

/-- R182: `ACK b`. -/
theorem ack {b : Byte} (h : AfterLang inp V (k + 1) L) (hi : romStep inp.script (k + 1) = some (.ack b)) :
    AfterLang inp V k fun q => (wroteLang b).seq (readLang.seq (L q)) :=
  h.exchange hi rfl (fun _ => .ackWrite b) fun _ => .ackRead b

/-- R182: `ACKP j`. -/
theorem ackp {j : Fin 4} (h : AfterLang inp V (k + 1) L) (hi : romStep inp.script (k + 1) = some (.ackp j)) :
    AfterLang inp V k fun q => (wroteLang inp.payload[j]).seq (readLang.seq (L q)) :=
  h.exchange hi rfl (fun _ => .ackpWrite j) fun _ => .ackpRead j

/-- R182: `WRITE b`. -/
theorem write {b : Byte} (h : AfterLang inp V (k + 1) L) (hi : romStep inp.script (k + 1) = some (.write b)) :
    AfterLang inp V k fun q => (wroteLang b).seq (L q) := by
  refine of_entry hi fun v hv hp => ?_
  rw [moveLang_of_write (hv ▸ hi) (.write b hp), h v hv]

/-- R182: the echo of `CAPTURE j`. -/
theorem moveLang_of_echo {j : Fin 3} {v : ValidatorState} {x : Byte} (h : AfterLang inp V (k + 1) L)
    (hi : romStep inp.script (k + 1) = some (.capture j)) (hv : v.step.val = k + 1) (hp : v.phase = .e)
    (hx : v.c[j] = x) : moveLang inp V (.go v) = (wroteLang x).seq (L v.c) := by
  subst hx
  rw [moveLang_of_write (hv ▸ hi) (.captureEcho j hp), h v hv]

/-- R182: `CAPTURE j`, which ends the script at a timeout. -/
theorem capture {j : Fin 3} (h : AfterLang inp V (k + 1) L)
    (hi : romStep inp.script (k + 1) = some (.capture j)) :
    AfterLang inp V k fun q tr => (.completeFail j = V ∧ tr = [.timeout]) ∨
      ∃ x, (capLang x).seq (L (q.set j x)) tr := by
  refine of_entry hi fun v hv hp => funext fun tr => ?_
  have hi' : romStep inp.script v.step.val = some (.capture j) := hv ▸ hi
  have hecho (x : Byte) :
      moveLang inp V (.go { v with c := v.c.set j x, nc := v.nc + 1, phase := .e }) =
        (wroteLang x).seq (L (v.c.set j x)) :=
    moveLang_of_echo h hi hv rfl (Vector.getElem_set_self _)
  rw [moveLang_go hi']
  refine propext ⟨?_, ?_⟩
  · rintro ⟨ev, tr', m, rfl, hacc, hm⟩
    cases hacc with
    | captureByte _ x =>
      rw [hecho] at hm
      obtain ⟨-, y, rfl, rfl, hy⟩ := hm
      exact .inr ⟨x, [.read x, .wrote x], y, rfl, rfl, hy⟩
    | captureTimeout =>
      obtain ⟨hV, rfl⟩ := (moveLang_stop _ _).1 hm
      exact .inl ⟨hV, rfl⟩
    | captureEcho _ he => cases hp.symm.trans he
  · rintro (⟨hV, rfl⟩ | ⟨x, -, y, rfl, rfl, hy⟩)
    · exact ⟨_, [], _, rfl, .captureTimeout j hp, (moveLang_stop _ _).2 ⟨hV, rfl⟩⟩
    · refine ⟨_, .wrote x :: y, _, rfl, .captureByte j x hp, ?_⟩
      rw [hecho]
      exact ⟨[.wrote x], y, rfl, rfl, hy⟩

end AfterLang

/-! ### The reads of a POLL -/

/-- R184: how `poll` ends after `k` discarded reads: by the expected byte or a timeout, or at its bound. -/
def pollEndLang (bound : Option PollBound) (k : Nat) : TraceLang := fun t =>
  (pollDiscardsAllowed bound k ∧ (t = [.read Config.expect] ∨ t = [.timeout])) ∨
    (bound.map PollBound.n = some k ∧ t = [])

/-- R184: what is left of `poll` after `cnt` discarded reads. -/
def pollLangFrom (bound : Option PollBound) (cnt : Nat) : TraceLang := fun t =>
  ∃ (vs : List Byte) (y : List Event), t = vs.map Event.read ++ y ∧ (∀ v ∈ vs, v ≠ Config.expect) ∧
    pollEndLang bound (cnt + vs.length) y

/-- R184: `poll` is what is left before the first read. -/
theorem pollLangFrom_zero (bound : Option PollBound) : pollLangFrom bound 0 = pollLang bound := by
  funext t
  simp only [pollLangFrom, pollEndLang, pollLang, Nat.zero_add]
  refine propext ⟨?_, ?_⟩
  · rintro ⟨vs, y, rfl, hvs, ⟨hk, rfl | rfl⟩ | ⟨hn, rfl⟩⟩
    · exact ⟨vs, hvs, .inl ⟨hk, .inl rfl⟩⟩
    · exact ⟨vs, hvs, .inl ⟨hk, .inr rfl⟩⟩
    · exact ⟨vs, hvs, .inr ⟨hn, List.append_nil _⟩⟩
  · rintro ⟨vs, hvs, ⟨hk, rfl | rfl⟩ | ⟨hn, rfl⟩⟩
    · exact ⟨vs, _, rfl, hvs, .inl ⟨hk, .inl rfl⟩⟩
    · exact ⟨vs, _, rfl, hvs, .inl ⟨hk, .inr rfl⟩⟩
    · exact ⟨vs, _, (List.append_nil _).symm, hvs, .inr ⟨hn, rfl⟩⟩

/-- R144: the first read of a POLL may be any. -/
theorem pollDiscardsAllowed_zero (bound : Option PollBound) : pollDiscardsAllowed bound 0 := by
  cases bound with
  | none => trivial
  | some b => exact b.pos

/-- R144: one more read may be discarded as long as the bound is not reached. -/
theorem pollDiscardsAllowed_succ {bound : Option PollBound} {cnt : Nat} (h : pollBoundReached bound cnt = false) :
    pollDiscardsAllowed bound (cnt + 1) := by
  cases bound with
  | none => trivial
  | some b => exact Nat.lt_of_not_le (of_decide_eq_false h)

/-- R184: below the bound, what is left of `poll` is one read that ends it, or a discarded byte and the rest. -/
theorem pollLangFrom_iff {bound : Option PollBound} {cnt : Nat} (h : pollDiscardsAllowed bound cnt)
    (t : List Event) :
    pollLangFrom bound cnt t ↔
      (∃ a, t = [answerEvent a] ∧ ∀ x, a = .byte x → x ≠ Config.expect → pollBoundReached bound cnt = true) ∨
        ∃ x t', t = .read x :: t' ∧ x ≠ Config.expect ∧ pollBoundReached bound cnt = false ∧
          pollLangFrom bound (cnt + 1) t' := by
  have hlength (x : Byte) (vs : List Byte) : cnt + (x :: vs).length = cnt + 1 + vs.length := by
    rw [List.length_cons]
    omega
  constructor
  · rintro ⟨_ | ⟨x, vs⟩, y, rfl, hvs, hy⟩
    · rcases hy with ⟨-, rfl | rfl⟩ | ⟨hn, -⟩
      · exact .inl ⟨.byte Config.expect, rfl, fun x hx hne => absurd (Answer.byte.inj hx).symm hne⟩
      · exact .inl ⟨.timeout, rfl, nofun⟩
      · obtain ⟨b, rfl, hb⟩ := Option.map_eq_some_iff.1 hn
        exact absurd h (Nat.not_le_of_lt (Nat.lt_succ_of_le (Nat.le_of_eq hb)))
    · rw [hlength] at hy
      obtain ⟨hx, hvs⟩ := List.forall_mem_cons.1 hvs
      cases hreached : pollBoundReached bound cnt with
      | false => exact .inr ⟨x, _, rfl, hx, rfl, vs, y, rfl, hvs, hy⟩
      | true =>
        obtain ⟨b, rfl, hb⟩ := (pollBoundReached_iff _ _).1 hreached
        rcases hy with ⟨hk, -⟩ | ⟨hn, rfl⟩
        · exact absurd hk (by simp only [pollDiscardsAllowed]; omega)
        · have hlast : vs = [] := List.eq_nil_of_length_eq_zero (by have := Option.some.inj hn; omega)
          exact .inl ⟨.byte x, by rw [hlast]; rfl, fun _ _ _ => rfl⟩
  · rintro (⟨a, rfl, hends⟩ | ⟨x, t', rfl, hx, -, vs, y, rfl, hvs, hy⟩)
    · cases a with
      | timeout => exact ⟨[], _, rfl, nofun, .inl ⟨h, .inr rfl⟩⟩
      | byte x =>
        by_cases hx : x = Config.expect
        · exact ⟨[], _, rfl, nofun, .inl ⟨h, .inl (by rw [hx]; rfl)⟩⟩
        · obtain ⟨b, rfl, hb⟩ := (pollBoundReached_iff _ _).1 (hends x rfl hx)
          exact ⟨[x], [], rfl, by simpa using hx, .inr ⟨congrArg some (Nat.le_antisymm hb h), rfl⟩⟩
    · exact ⟨x :: vs, y, rfl, List.forall_mem_cons.2 ⟨hx, hvs⟩, (hlength x vs).symm ▸ hy⟩

namespace AfterLang

variable {inp : ValidatorInput} {V : Verdict} {k : Nat} {L : Response → TraceLang} {b : Byte}

/-- R182, R184: the reads of a POLL that has discarded `cnt` bytes. -/
theorem moveLang_of_poll {v : ValidatorState} {cnt : Nat} (h : AfterLang inp V (k + 1) L)
    (hi : romStep inp.script (k + 1) = some (.poll b Config.expect)) (hv : v.step.val = k + 1) (hp : v.phase = .r)
    (hcnt : inp.bound ≠ none → v.pollCnt = cnt) (hallowed : pollDiscardsAllowed inp.bound cnt) (tr : List Event) :
    moveLang inp V (.go v) tr ↔ (pollLangFrom inp.bound cnt).seq (L v.c) tr := by
  induction tr generalizing v cnt with
  | nil =>
    refine iff_of_false id ?_
    rintro ⟨x, y, heq, hx, -⟩
    obtain ⟨rfl, -⟩ := List.append_eq_nil_iff.1 heq.symm
    rcases (pollLangFrom_iff hallowed _).1 hx with ⟨a, ha, -⟩ | ⟨x, t', ht, -⟩
    · cases ha
    · cases ht
  | cons ev tr ih =>
    have hreached := pollBoundReached_congr hcnt
    have hstay (x : Byte) (hlive : pollBoundReached inp.bound cnt = false) :
        moveLang inp V (.go { v with pollCnt := pollCntAfter inp.bound v.pollCnt (v.pollCnt + 1) }) tr ↔
          (pollLangFrom inp.bound (cnt + 1)).seq (L v.c) tr :=
      ih hv hp (fun hbound => by rw [pollCntAfter_of_ne_none hbound, hcnt hbound]) (pollDiscardsAllowed_succ hlive)
    rw [moveLang_go (hv ▸ hi)]
    constructor
    · rintro ⟨ev', tr', m, heq, hacc, hm⟩
      cases heq
      cases hacc with
      | pollWrite _ _ hw => cases hp.symm.trans hw
      | pollEnd _ _ a _ hends =>
        rw [h v hv] at hm
        exact ⟨[answerEvent a], tr, rfl, (pollLangFrom_iff hallowed _).2 (.inl ⟨a, rfl, hreached ▸ hends⟩), hm⟩
      | pollStay _ _ x _ hx hlive =>
        rw [hreached] at hlive
        obtain ⟨y, z, rfl, hy, hz⟩ := (hstay x hlive).1 hm
        exact ⟨.read x :: y, z, rfl, (pollLangFrom_iff hallowed _).2 (.inr ⟨x, y, rfl, hx, hlive, hy⟩), hz⟩
    · rintro ⟨y, z, heq, hy, hz⟩
      rcases (pollLangFrom_iff hallowed _).1 hy with ⟨a, rfl, hends⟩ | ⟨x, t', rfl, hx, hlive, ht'⟩
      · cases heq
        exact ⟨_, _, _, rfl, .pollEnd b _ a hp (hreached.symm ▸ hends), by rwa [h v hv]⟩
      · cases heq
        exact ⟨_, _, _, rfl, .pollStay b _ x hp hx (hreached.trans hlive), (hstay x hlive).2 ⟨t', z, rfl, ht', hz⟩⟩

/-- R182, R184: `POLL b 0x12`. -/
theorem poll (h : AfterLang inp V (k + 1) L) (hi : romStep inp.script (k + 1) = some (.poll b Config.expect)) :
    AfterLang inp V k fun q => (wroteLang b).seq ((pollLang inp.bound).seq (L q)) := by
  refine of_entry hi fun v hv hp => ?_
  rw [moveLang_of_write (hv ▸ hi) (.pollWrite b _ hp), ← pollLangFrom_zero]
  refine congrArg _ (funext fun tr => propext ?_)
  exact h.moveLang_of_poll (v := { v with phase := .r, pollCnt := pollCntAfter inp.bound v.pollCnt 0 }) hi hv rfl
    (fun hbound => pollCntAfter_of_ne_none hbound _ 0) (pollDiscardsAllowed_zero _) tr

end AfterLang
/-! ### The two scripts -/

/-- R181, R185: the traces of a complete verdict are what follows from step 1 on. -/
theorem AfterLang.validate_iff {inp : ValidatorInput} {V : Verdict} {L : Response → TraceLang}
    (h : AfterLang inp V 0 L) (hsc : inp.script ≠ .idle) (hV : V.isComplete = true) (tr : List Event) :
    validate inp tr = V ↔ L validatorInit.c tr := by
  have hentry : validatorAdvance inp { validatorInit with step := 0 } = .go validatorInit := by
    rw [validatorAdvance_of_ne (by decide)]
    simp only [Fin.val_zero, Nat.zero_add, entryPhase_of_romStep (romStep_one hsc)]
    rfl
  rw [← h { validatorInit with step := 0 } rfl, hentry]
  exact verdict_eq_iff hV tr 0

section Scripts

variable (p : Payload) (bound : Option PollBound)

/-- R77, R184: the start script from its last step back to its first. -/
theorem afterLang_start :
    AfterLang ⟨.start, p, bound⟩ (.completeOk none) 0 fun _ => startLang p bound :=
  have h10 : AfterLang ⟨.start, p, bound⟩ (.completeOk none) 10 fun _ => TraceLang.concat [] :=
    AfterLang.ten.congr fun _ _ => and_iff_right rfl
  h10.poll (b := 0x00) rfl |>.ackp (j := 3) rfl |>.ackp (j := 2) rfl
    |>.ackp (j := 1) rfl |>.ackp (j := 0) rfl |>.ack (b := 0x2C) rfl
    |>.ack (b := 0x64) rfl |>.poll (b := 0x1E) rfl |>.ack (b := 0x64) rfl
    |>.ack (b := 0x64) rfl

/-- Settles O55. -/
theorem startTracesAreTheLanguage : Obligations.StartTracesAreTheLanguage :=
  fun p bound tr => (afterLang_start p bound).validate_iff nofun rfl tr

variable {p bound} {V : Verdict} {L : Response → TraceLang}

/-- R78, R184: the stop script after its captures. -/
theorem afterLang_stop_tail :
    AfterLang ⟨.stop, p, bound⟩ V 6 fun q tr => .completeOk (some q) = V ∧ stopTailLang bound tr := by
  have h6 := (AfterLang.ten (inp := ⟨.stop, p, bound⟩) (V := V)).poll (b := 0x82) rfl
    |>.ack (b := 0x64) rfl |>.write (b := 0x00) rfl |>.ack (b := 0x4E) rfl
  refine h6.congr fun q tr => ?_
  simp only [TraceLang.seq_guard, if_pos]
  rfl

/-- R78, R184: the stop script before its captures. -/
theorem afterLang_stop_head (h : AfterLang ⟨.stop, p, bound⟩ V 3 L) :
    AfterLang ⟨.stop, p, bound⟩ V 0 fun q => (stopHeadLang bound).seq (L q) := by
  have h0 := h.write (b := 0x0A) rfl |>.poll (b := 0x2B) rfl |>.ack (b := 0x64) rfl
  refine h0.congr fun q tr => iff_of_eq (congrFun ?_ tr)
  simp only [stopHeadLang, TraceLang.concat_cons, TraceLang.seq_assoc, TraceLang.nil_seq]

/-- R78: the CAPTURE with index `j` is step `4 + j`. -/
theorem romStep_capture (j : Fin 3) : romStep .stop (3 + j.val + 1) = some (.capture j) :=
  (romStep_stop_capture_iff ⟨3 + j.val + 1, by omega⟩ j).2 (Nat.add_right_comm 3 j.val 1)

/-- R143, R184: the first captures agree with those of `r`, the last of them made last. -/
theorem set_agrees_iff (q r : Response) (j : Fin 3) (x : Byte) :
    (∀ m : Fin 3, m.val < j.val + 1 → (q.set j x)[m] = r[m]) ↔
      x = r[j] ∧ ∀ m : Fin 3, m.val < j.val → q[m] = r[m] := by
  have hother {m : Fin 3} (hm : m.val < j.val) : (q.set j x)[m] = q[m] :=
    Vector.getElem_set_ne j.isLt m.isLt (Nat.ne_of_gt hm)
  have hself : (q.set j x)[j] = x := Vector.getElem_set_self _
  constructor
  · intro h
    exact ⟨hself.symm.trans (h j (Nat.lt_succ_self _)), fun m hm => (hother hm).symm.trans (h m (Nat.lt_succ_of_lt hm))⟩
  · rintro ⟨hx, h⟩ m hm
    rcases Nat.lt_succ_iff_lt_or_eq.1 hm with hlt | heq
    · exact (hother hlt).trans (h m hlt)
    · cases Fin.ext heq
      exact hself.trans hx

/-- R184: one capture more of a stop script that ends with `OK` and the bytes `r`. -/
theorem AfterLang.captureOk {r : Response} {rest : TraceLang} (j : Fin 3)
    (h : AfterLang ⟨.stop, p, bound⟩ (.completeOk (some r)) (3 + j.val + 1)
      fun q tr => (∀ m : Fin 3, m.val < j.val + 1 → q[m] = r[m]) ∧ rest tr) :
    AfterLang ⟨.stop, p, bound⟩ (.completeOk (some r)) (3 + j.val)
      fun q tr => (∀ m : Fin 3, m.val < j.val → q[m] = r[m]) ∧ (capLang r[j]).seq rest tr := by
  refine (h.capture (romStep_capture j)).congr fun q tr => ?_
  simp only [TraceLang.seq_guard, set_agrees_iff, reduceCtorEq, false_and, false_or]
  constructor
  · rintro ⟨x, ⟨rfl, hagree⟩, htr⟩
    exact ⟨hagree, htr⟩
  · rintro ⟨hagree, htr⟩
    exact ⟨_, ⟨rfl, hagree⟩, htr⟩

/-- R78, R184: the stop script with `OK` and the bytes `r`. -/
theorem afterLang_stop_ok (p : Payload) (bound : Option PollBound) (r : Response) :
    AfterLang ⟨.stop, p, bound⟩ (.completeOk (some r)) 0 fun _ => stopOkLang bound r := by
  have h6 : AfterLang ⟨.stop, p, bound⟩ (.completeOk (some r)) 6
      fun q tr => (∀ m : Fin 3, m.val < 3 → q[m] = r[m]) ∧ stopTailLang bound tr := by
    refine afterLang_stop_tail.congr fun q tr => and_congr_left' ?_
    rw [Verdict.completeOk.injEq, Option.some.injEq, Vector.ext_iff]
    exact ⟨fun hq m _ => hq m m.isLt, fun hq m hm => hq ⟨m, hm⟩ hm⟩
  have h0 := afterLang_stop_head (((h6.captureOk 2).captureOk 1).captureOk 0)
  refine h0.congr fun q tr => ?_
  rw [TraceLang.seq_guard, stopOkLang]
  simp [TraceLang.concat_cons]

/-- R184: the captures of a stop script that fails: after `j` of them come the others before CAPTURE `i`, and its
timeout. -/
def failingCaptures (i j : Nat) : TraceLang := fun tr =>
  ∃ vs : List Byte, vs.length + j = i ∧ TraceLang.concat (vs.map capLang ++ [timeoutLang]) tr

/-- R184: one capture more of a stop script that fails at CAPTURE `i`. -/
theorem AfterLang.captureFail {i : Fin 3} (j : Fin 3)
    (h : AfterLang ⟨.stop, p, bound⟩ (.completeFail i) (3 + j.val + 1) fun _ => failingCaptures i (j + 1)) :
    AfterLang ⟨.stop, p, bound⟩ (.completeFail i) (3 + j.val) fun _ => failingCaptures i j := by
  have htimeout : TraceLang.concat [timeoutLang] = timeoutLang := TraceLang.seq_nil timeoutLang
  refine (h.capture (romStep_capture j)).congr fun q tr => ?_
  constructor
  · rintro (⟨hi, rfl⟩ | ⟨x, y, z, rfl, hy, vs, hvs, hz⟩)
    · cases hi
      exact ⟨[], Nat.zero_add _, htimeout.symm ▸ rfl⟩
    · exact ⟨x :: vs, by rw [List.length_cons]; omega, y, z, rfl, hy, hz⟩
  · rintro ⟨_ | ⟨x, vs⟩, hvs, htr⟩
    · rw [List.map_nil, List.nil_append, htimeout] at htr
      exact .inl ⟨congrArg _ (Fin.ext ((Nat.zero_add _).symm.trans hvs)), htr⟩
    · obtain ⟨y, z, rfl, hy, hz⟩ := htr
      exact .inr ⟨x, y, z, rfl, hy, vs, by rw [← hvs, List.length_cons]; omega, hz⟩

/-- R78, R184: the stop script that fails at CAPTURE `i`. -/
theorem afterLang_stop_fail (p : Payload) (bound : Option PollBound) (i : Fin 3) :
    AfterLang ⟨.stop, p, bound⟩ (.completeFail i) 0
      fun _ tr => ∃ vs : List Byte, vs.length = i.val ∧ stopFailLang bound vs tr := by
  have h6 : AfterLang ⟨.stop, p, bound⟩ (.completeFail i) 6 fun _ => failingCaptures i 3 := by
    refine afterLang_stop_tail.congr fun q tr => iff_of_false (by simp) ?_
    rintro ⟨vs, hvs, -⟩
    omega
  have h0 := afterLang_stop_head (((h6.captureFail 2).captureFail 1).captureFail 0)
  refine h0.congr fun q tr => ?_
  constructor
  · rintro ⟨y, z, rfl, hy, vs, hvs, hz⟩
    exact ⟨vs, hvs, y, z, rfl, hy, hz⟩
  · rintro ⟨vs, hvs, y, z, rfl, hy, hz⟩
    exact ⟨y, z, rfl, hy, vs, hvs, hz⟩

end Scripts

/-- Settles O56. -/
theorem stopTracesAreTheLanguage : Obligations.StopTracesAreTheLanguage := fun p bound tr =>
  ⟨fun r => (afterLang_stop_ok p bound r).validate_iff nofun rfl tr,
    fun i => (afterLang_stop_fail p bound i).validate_iff nofun rfl tr⟩

end Sys2Proof.Machine

/-! ## A start script cannot fail, and an unbounded POLL can wait for ever

Where the failures of a script do not reach: the start script has no CAPTURE to time out, and a POLL without a bound
has no read that is its last. -/

namespace Sys2Proof.Machine

/-- Settles O46: a step that keeps the script running keeps it the start script, and of the two ends of a script the
timeout of a CAPTURE belongs to the stop script. -/
theorem startScriptCannotFail : Obligations.StartScriptCannotFail := by
  intro s h hr hsc
  have hb : s.busy = true := (State.busy_iff s).2 (by simp [hsc])
  obtain ⟨t, hstep⟩ := legalStatesAlwaysStep s h
  refine ⟨t, hstep, ?_⟩
  cases ht : t.busy with
  | true =>
    obtain ⟨-, -, -, hscript⟩ := resultsHoldWhileRunning s t h hr hb hstep ht
    exact .inl (hscript.trans hsc)
  | false =>
    rcases scriptEndsAtStepTenOrAtACaptureTimeout s t h hr hb hstep ht with ⟨-, hok⟩ | ⟨-, hstop, -⟩
    · exact .inr ⟨(State.not_busy_iff t).1 ht, hok⟩
    · exact absurd (hsc.symm.trans hstop) nofun

/-- R28: without a bound the poll counter does not exist, and a write to it changes nothing. -/
theorem State.setPollCnt_of_unbounded {s : State} (h : s.pollMaxReads = none) (n : Nat) : s.setPollCnt n = s := by
  rw [State.setPollCnt, h, pollCntAfter_none, ← h]

/-- R140: without a bound only a timeout and the expected byte end a POLL. -/
theorem State.not_pollEnds_of_unbounded {s : State} {e v : Byte} (h : s.pollMaxReads = none) (hv : v ≠ e) :
    ¬s.pollEnds e (.byte v) := by
  simp [State.pollEnds, h, hv]

/-- R140, R216: an unbounded POLL that reads another byte records it and stays. -/
theorem step_of_unbounded_poll {s : State} {b e v : Byte} {rest : List Answer} (hr : s.resetReq = false)
    (hi : s.currentStep = some (.poll b e)) (hp : s.phase = .r) (hn : s.pollMaxReads = none) (hv : v ≠ e)
    (ha : s.answers = .byte v :: rest) :
    step s = .next { s with answers := rest, trace := s.trace ++ [.read v] } := by
  have hread : (s.consume (.byte v)).pollMaxReads = none := hn
  rw [step_of_polling hr hi hp ha, State.pollAnswer_of_not_ends (State.not_pollEnds_of_unbounded hread hv),
    State.setPollCnt_of_unbounded hread, State.consume_of_answers ha]
  rfl

/-- Settles O47, by induction on the bytes the environment gives. -/
theorem unboundedPollNeverMovesOn : Obligations.UnboundedPollNeverMovesOn := by
  intro s b e vs rest hr hi hp hn hvs ha
  induction vs generalizing s with
  | nil =>
    obtain rfl : s.answers = rest := ha
    simp [Host.Core.run]
  | cons v vs ih =>
    obtain ⟨hv, hvs⟩ := List.forall_mem_cons.1 hvs
    have hstep := step_of_unbounded_poll hr hi hp hn hv ha
    have hrun := ih { s with answers := vs.map Answer.byte ++ rest, trace := s.trace ++ [.read v] }
      hr hi hp hn hvs rfl
    refine (run_succ hstep _).trans (hrun.trans ?_)
    simp

end Sys2Proof.Machine

/-! ## The reset -/

namespace Sys2Proof.Machine

/-- R230, R233: an asserted reset is what the next step takes. -/
theorem step_of_reset {s : State} (hr : s.resetReq = true) : step s = .next s.softReset := by
  simp [step, fetch, hr]

/-- Settles O1: the block after reset is idle, so it takes the command presented to it. -/
theorem resetRegisterValues : Obligations.ResetRegisterValues :=
  ⟨rfl, rfl, rfl, rfl, rfl, rfl, rfl, rfl, fun _ _ hi => step_of_command rfl rfl rfl hi⟩

/-- Settles O2. -/
theorem resetTakenInEveryState : Obligations.ResetTakenInEveryState := fun s hr =>
  ⟨s.softReset, step_of_reset hr, rfl, rfl, rfl, rfl, rfl, rfl, rfl, rfl, rfl, rfl, rfl, rfl⟩

/-- Settles O38: the block after reset is idle, with the ROM contents and a poll counter of 0. -/
theorem resetIsLegal : Obligations.ResetIsLegal :=
  legal_of_idle rfl nofun rfl rfl rfl (pollCntFits_zero _)

end Sys2Proof.Machine

/-! ## Commands do not see what earlier commands left

R234: of the registers an earlier command wrote, a running script reads none. Two runs of one command stay in the
relation `SameCommand`, one operation at a time: each operation does the same to both, and so does every micro-step,
the answers being the same. -/

namespace Sys2Proof.Machine

/-! ### Two acceptances -/

/-- R162, R163: a script entered from two states with the same bound and the same answers to come runs the same
command in both, if it is no start script or the payloads are the same. -/
theorem SameCommand.enter {s s' : State} {sc : Script} (hbound : s.pollMaxReads = s'.pollMaxReads)
    (hanswers : s.answers = s'.answers) (hdraws : s.draws = s'.draws) (hpay : sc = .start → s.pay = s'.pay) :
    SameCommand (s.enter sc) (s'.enter sc) where
  script := rfl
  step := rfl
  phase := rfl
  bound := hbound
  answers := hanswers
  draws := hdraws
  pollCnt hpoll := by simp [State.polling_iff] at hpoll
  payload := hpay
  captured _ j hj := by simp [State.hasCaptured_iff] at hj

/-- Settles O51: SET_CURRENT enters its script or refuses by its operand alone, and STOP_QUERY enters its script. -/
theorem acceptedCommandsStartAlike : Obligations.AcceptedCommandsStartAlike := by
  intro i s s' t t' hi hb hb' hbound hanswers hdraws h h'
  rcases hi with ⟨x, rfl⟩ | ⟨x, rfl⟩
  · cases he : encodeCurrent x with
    | ok p =>
      cases h.symm.trans (exec_of_accepted hb (.setCurrent x p he))
      cases h'.symm.trans (exec_of_accepted hb' (.setCurrent x p he))
      exact .inl (SameCommand.enter (s := { s with trace := [], pay := p }) (s' := { s' with trace := [], pay := p })
        (sc := .start) hbound hanswers hdraws fun _ => rfl)
    | range =>
      cases h.symm.trans (exec_of_accepted hb (.setCurrentRange x he))
      cases h'.symm.trans (exec_of_accepted hb' (.setCurrentRange x he))
      exact .inr ⟨hb, hb', rfl, rfl⟩
  · cases h.symm.trans (exec_of_accepted hb (.stopQuery x))
    cases h'.symm.trans (exec_of_accepted hb' (.stopQuery x))
    exact .inl (SameCommand.enter (s := s.beginTrace.clearValid) (s' := s'.beginTrace.clearValid)
      hbound hanswers hdraws nofun)

/-! ### Two runs of one command -/

/-- R234: two legal blocks that run the same command. -/
structure RunAlike (s s' : State) : Prop where
  legal : s.Legal
  legal' : s'.Legal
  busy : s.busy = true
  same : SameCommand s s'

/-- R234: what two runs of one command, a script `sc`, have come to: they run it on alike, or they have ended it with
the same outcome. -/
def ComeAlike (sc : Script) (t t' : State) : Prop :=
  (t.busy = true ∧ SameCommand t t') ∨
    (t.busy = false ∧ t'.busy = false ∧ t.status = t'.status ∧ t.answers = t'.answers ∧
      (sc = .stop → t.status = .ok → t.resMag = t'.resMag ∧ t.resNeg = t'.resNeg))

/-- R12, R234: two runs of one command make the same event and come alike. -/
def StepAlike (s s' t t' : State) : Prop :=
  ∃ ev, t.trace = s.trace ++ [ev] ∧ t'.trace = s'.trace ++ [ev] ∧ ComeAlike s.script t t'

/-- R77, R78: only the start script sends the payload. -/
theorem romStep_stop_ne_ackp (k : Fin 11) (i : Fin 4) : romStep .stop k.val ≠ some (.ackp i) := by
  revert k i
  decide

/-- R78, R142: of the other CAPTUREs, those made after the byte of CAPTURE `k` is kept were made before. -/
theorem State.Legal.hasCaptured_of_captureByte {s : State} {j k : Fin 3} {v : Byte} (h : s.Legal)
    (hi : s.currentStep = some (.capture k)) (hne : j ≠ k)
    (hj : (s.captureAnswer k (.byte v)).hasCaptured j = true) : s.hasCaptured j = true := by
  have hstep : s.step.val = 4 + k.val := (h.at_capture hi).2
  rw [State.hasCaptured_iff] at hj ⊢
  rcases hj with hlt | ⟨hval, -⟩
  · exact .inl hlt
  · exact absurd (Fin.ext (Nat.add_left_cancel (hval.symm.trans hstep))) hne

/-- R140: what a POLL does with an answer makes no event. -/
theorem State.pollAnswer_trace (s : State) (e : Byte) (a : Answer) : (s.pollAnswer e a).trace = s.trace := by
  by_cases hend : s.pollEnds e a
  · rw [State.pollAnswer_of_ends hend, State.advance_trace]
  · rw [State.pollAnswer_of_not_ends hend, State.setPollCnt_trace]

namespace RunAlike

variable {s s' : State} {i : Instr} {b e : Byte} {k : Fin 3}

/-- R26: both blocks are busy. -/
theorem busy' (h : RunAlike s s') : s'.busy = true := by
  rw [State.busy_iff, ← h.same.script, ← State.busy_iff]
  exact h.busy

/-- R135: both blocks stand at the same step. -/
theorem currentStep_eq (h : RunAlike s s') : s.currentStep = s'.currentStep := by
  rw [State.currentStep_eq_romStep s h.legal.rom, State.currentStep_eq_romStep s' h.legal'.rom, h.same.script,
    h.same.step]

/-- R138: at an ACKP the payloads are the same. -/
theorem payload_eq {k : Fin 4} (h : RunAlike s s') (hi : s.currentStep = some (.ackp k)) :
    s.payload k = s'.payload k := by
  have hpay : s.pay = s'.pay := by
    rw [State.currentStep_eq_romStep s h.legal.rom] at hi
    cases hsc : s.script with
    | idle => exact absurd hsc ((State.busy_iff s).1 h.busy)
    | start => exact h.same.payload hsc
    | stop => exact absurd (hsc ▸ hi) (romStep_stop_ne_ackp s.step k)
  rw [State.payload, State.payload, hpay]

/-- R143: at the echo of a CAPTURE the bytes captured are the same. -/
theorem captured_eq (h : RunAlike s s') (hi : s.currentStep = some (.capture k)) (hp : s.phase = .e) :
    s.captured k = s'.captured k := by
  obtain ⟨hstop, hstep⟩ := h.legal.at_capture hi
  exact h.same.captured hstop k ((State.hasCaptured_iff s k).2 (.inr ⟨hstep, hp⟩))

/-- R78: at step 10 of the stop script all three bytes captured are the same. -/
theorem cap_eq_at_ten (h : RunAlike s s') (hstop : s.script = .stop) (hten : s.step = 10) : s.cap = s'.cap := by
  have hmade (j : Fin 3) : s.hasCaptured j = true := by
    rw [State.hasCaptured_iff, hten]
    exact .inl (by omega)
  exact Vector.ext fun j hj => h.same.captured hstop ⟨j, hj⟩ (hmade ⟨j, hj⟩)

/-- R28: a write to the poll counter leaves the same value: where there is no counter both hold 0. -/
theorem pollCntAfter_eq (h : RunAlike s s') (n : Nat) :
    pollCntAfter s.pollMaxReads s.pollCnt n = pollCntAfter s'.pollMaxReads s'.pollCnt n := by
  have hfits := h.legal.pollCnt
  have hfits' := h.legal'.pollCnt
  rw [← h.same.bound] at hfits' ⊢
  cases hbound : s.pollMaxReads with
  | none =>
    rw [hbound] at hfits hfits'
    exact hfits.trans hfits'.symm
  | some n => rfl

/-- R140: while a POLL reads, the poll counters are the same. -/
theorem pollCnt_eq (h : RunAlike s s') (hi : s.currentStep = some (.poll b e)) (hp : s.phase = .r) :
    s.pollCnt = s'.pollCnt :=
  h.same.pollCnt (State.polling_iff.2 ⟨⟨b, e, hi⟩, hp⟩)

/-! ### The operations of a micro-step -/

/-- R51: both blocks write. -/
theorem txWrite (h : RunAlike s s') (b : Byte) : RunAlike (s.txWrite b) (s'.txWrite b) where
  legal := h.legal.txWrite b
  legal' := h.legal'.txWrite b
  busy := h.busy
  same := { h.same with }

/-- R66: both blocks take the same answer. -/
theorem consume (h : RunAlike s s') (a : Answer) : RunAlike (s.consume a) (s'.consume a) where
  legal := h.legal.consume a
  legal' := h.legal'.consume a
  busy := h.busy
  same := { h.same with
    answers := congrArg List.tail h.same.answers
    draws := by simp only [State.consume, h.same.answers, h.same.draws] }

/-- R66: the environment gives both blocks the same answer. -/
theorem txRead (h : RunAlike s s') : ∃ a, s.txRead = (a, s.consume a) ∧ s'.txRead = (a, s'.consume a) := by
  have hanswers' := h.same.answers.symm
  cases ha : s.answers with
  | cons a rest => exact ⟨a, State.txRead_of_answers ha, State.txRead_of_answers (hanswers'.trans ha)⟩
  | nil =>
    rw [ha] at hanswers'
    refine ⟨Config.freeAnswer s.draws, ?_, ?_⟩
    · simp [State.txRead, State.nextAnswer, State.consume, State.emit, ha]
    · simp [State.txRead, State.nextAnswer, State.consume, State.emit, hanswers', h.same.draws]

/-- R147: both scripts end with `OK`, and the stop script with the same Reading. -/
theorem finish (h : RunAlike s s') (hten : s.step = 10) : ComeAlike s.script s.finish s'.finish := by
  refine .inr ⟨rfl, rfl, rfl, ?_, fun hstop _ => ?_⟩
  · rw [← State.advance_of_last hten, ← State.advance_of_last (h.same.step ▸ hten), State.advance_answers,
      State.advance_answers, h.same.answers]
  · rw [State.finish_of_stop hstop, State.finish_of_stop (h.same.script ▸ hstop), h.cap_eq_at_ten hstop hten]
    exact ⟨rfl, rfl⟩

/-- R146: both scripts go on to the next step, or end. -/
theorem advance (h : RunAlike s s') (hlast : ∀ k, s.currentStep = some (.capture k) → s.phase = .e) :
    ComeAlike s.script s.advance s'.advance := by
  by_cases hten : s.step = 10
  · rw [State.advance_of_last hten, State.advance_of_last (h.same.step ▸ hten)]
    exact h.finish hten
  have hcap := State.hasCaptured_advance h.legal (hne := hten) (hlast := hlast)
  have hpoll := State.polling_advance h.legal.rom hten
  rw [State.advance_of_ne hten] at hcap hpoll ⊢
  rw [State.advance_of_ne (h.same.step ▸ hten)]
  refine .inl ⟨h.busy, { h.same with
    step := congrArg (· + 1) h.same.step
    phase := ?_
    pollCnt := fun hp => absurd hp hpoll
    captured := fun hstop j hj => h.same.captured hstop j ((hcap hstop j).symm.trans hj) }⟩
  simp only [h.legal.rom, h.legal'.rom, h.same.script, h.same.step]

/-- R137, R138: after a write both blocks turn to the read of a step that is no POLL. -/
theorem writeThenRead (h : RunAlike s s') (hi : s.currentStep = some i) (hp : s.phase = .w)
    (hne : ∀ b e, i ≠ .poll b e) (b : Byte) :
    StepAlike s s' (s.writeThenRead b) (s'.writeThenRead b) := by
  refine ⟨.wrote b, rfl, rfl, .inl ⟨h.busy, { h.same with
    phase := rfl
    pollCnt := fun hpoll => absurd hpoll (State.polling_of_not_poll (s := s.writeThenRead b) hi hne)
    captured := fun hstop j hj => h.same.captured hstop j ?_ }⟩⟩
  rwa [State.hasCaptured_congr s (s.writeThenRead b) rfl (by simp [hp]) nofun] at hj

/-- R139: after its write a POLL has the same count in both blocks. -/
theorem pollWrite (h : RunAlike s s') (hp : s.phase = .w) (b : Byte) :
    StepAlike s s' (s.pollWrite b) (s'.pollWrite b) := by
  refine ⟨.wrote b, rfl, rfl, .inl ⟨h.busy, { h.same with
    phase := rfl
    pollCnt := fun _ => h.pollCntAfter_eq 0
    captured := fun hstop j hj => h.same.captured hstop j ?_ }⟩⟩
  rwa [State.hasCaptured_congr s (s.pollWrite b) rfl (by simp [hp]) nofun] at hj

/-- R137, R138: the read of a step that discards the answer. -/
theorem readAndDiscard (h : RunAlike s s') (hne : ∀ k, s.currentStep ≠ some (.capture k)) :
    StepAlike s s' s.readAndDiscard s'.readAndDiscard := by
  obtain ⟨a, hread, hread'⟩ := h.txRead
  rw [State.readAndDiscard, State.readAndDiscard, hread, hread']
  exact ⟨answerEvent a, State.advance_trace _, State.advance_trace _,
    (h.consume a).advance fun k hk => absurd hk (hne k)⟩

/-- R140, R144: an answer ends a POLL in both blocks, or in neither. -/
theorem pollAnswer (h : RunAlike s s') (hi : s.currentStep = some (.poll b e)) (hp : s.phase = .r) (a : Answer) :
    ComeAlike s.script (s.pollAnswer e a) (s'.pollAnswer e a) := by
  have hcnt := h.pollCnt_eq hi hp
  have hends : s.pollEnds e a ↔ s'.pollEnds e a := by
    rw [State.pollEnds, State.pollEnds, h.same.bound, hcnt]
  by_cases hend : s.pollEnds e a
  · rw [State.pollAnswer_of_ends hend, State.pollAnswer_of_ends (hends.1 hend)]
    exact h.advance fun k hk => absurd (hi.symm.trans hk) nofun
  · rw [State.pollAnswer_of_not_ends hend, State.pollAnswer_of_not_ends (mt hends.2 hend), ← hcnt]
    exact .inl ⟨h.busy, { h.same with pollCnt := fun _ => h.pollCntAfter_eq _ }⟩

/-- R140: the read of a POLL. -/
theorem pollRead (h : RunAlike s s') (hi : s.currentStep = some (.poll b e)) (hp : s.phase = .r) :
    StepAlike s s' (s.pollRead e) (s'.pollRead e) := by
  obtain ⟨a, hread, hread'⟩ := h.txRead
  rw [State.pollRead, State.pollRead, hread, hread']
  exact ⟨answerEvent a, State.pollAnswer_trace _ e a, State.pollAnswer_trace _ e a,
    (h.consume a).pollAnswer hi hp a⟩

/-- R141: the write of a WRITE. -/
theorem writeOnly (h : RunAlike s s') (hne : ∀ k, s.currentStep ≠ some (.capture k)) (b : Byte) :
    StepAlike s s' (s.writeOnly b) (s'.writeOnly b) :=
  ⟨.wrote b, State.advance_trace _, State.advance_trace _,
    (h.txWrite b).advance fun k hk => absurd hk (hne k)⟩

/-- R142, R203: a CAPTURE keeps the same byte in both blocks, or fails in both. -/
theorem captureAnswer (h : RunAlike s s') (hi : s.currentStep = some (.capture k)) (a : Answer) :
    ComeAlike s.script (s.captureAnswer k a) (s'.captureAnswer k a) := by
  cases a with
  | timeout => exact .inr ⟨rfl, rfl, rfl, h.same.answers, nofun⟩
  | byte v =>
    refine .inl ⟨h.busy, { h.same with
      phase := rfl
      pollCnt := fun hpoll => absurd hpoll (State.polling_of_not_poll (s := s.captureAnswer k (.byte v)) hi nofun)
      captured := fun hstop j hj => ?_ }⟩
    by_cases hjk : j = k
    · subst hjk
      exact (Vector.getElem_set_self _).trans (Vector.getElem_set_self _).symm
    · have hkept (q : Response) : (q.set k v)[j] = q[j] :=
        Vector.getElem_set_ne k.isLt j.isLt fun hval => hjk (Fin.ext hval.symm)
      have hsame := h.same.captured hstop j (h.legal.hasCaptured_of_captureByte hi hjk hj)
      exact (hkept s.cap).trans (hsame.trans (hkept s'.cap).symm)

/-- R142: the read of a CAPTURE. -/
theorem captureRead (h : RunAlike s s') (hi : s.currentStep = some (.capture k)) :
    StepAlike s s' (s.captureRead k) (s'.captureRead k) := by
  obtain ⟨a, hread, hread'⟩ := h.txRead
  rw [State.captureRead, State.captureRead, hread, hread']
  exact ⟨answerEvent a, by cases a <;> rfl, by cases a <;> rfl, (h.consume a).captureAnswer hi a⟩

/-- R143: the echo of a CAPTURE. -/
theorem captureEcho (h : RunAlike s s') (hi : s.currentStep = some (.capture k)) (hp : s.phase = .e) :
    StepAlike s s' (s.captureEcho k) (s'.captureEcho k) := by
  rw [State.captureEcho, State.captureEcho, h.captured_eq hi hp]
  exact ⟨.wrote (s'.captured k), State.advance_trace _, State.advance_trace _, (h.txWrite _).advance fun _ _ => hp⟩

/-! ### The step -/

/-- R136: the micro-step of the step both blocks stand at. -/
theorem exec_alike (h : RunAlike s s') (hi : s.currentStep = some i) (hf : phaseFits i s.phase = true) :
    ∃ t t', exec i s = .next t ∧ exec i s' = .next t' ∧ StepAlike s s' t t' := by
  have hb := h.busy
  have hb' := h.busy'
  have hp' := h.same.phase.symm
  cases hp : s.phase with
  | w =>
    rw [hp] at hp'
    cases i with
    | ack b => exact ⟨_, _, exec_ack_write b hb hp, exec_ack_write b hb' hp', h.writeThenRead hi hp nofun b⟩
    | ackp k =>
      refine ⟨_, _, exec_ackp_write k hb hp, exec_ackp_write k hb' hp', ?_⟩
      rw [h.payload_eq hi]
      exact h.writeThenRead hi hp nofun _
    | poll b e => exact ⟨_, _, exec_poll_write b e hb hp, exec_poll_write b e hb' hp', h.pollWrite hp b⟩
    | write b => exact ⟨_, _, exec_write_write b hb hp, exec_write_write b hb' hp', h.writeOnly (by simp [hi]) b⟩
    | _ => simp [hp, phaseFits] at hf
  | r =>
    rw [hp] at hp'
    cases i with
    | ack b => exact ⟨_, _, exec_ack_read b hb hp, exec_ack_read b hb' hp', h.readAndDiscard (by simp [hi])⟩
    | ackp k => exact ⟨_, _, exec_ackp_read k hb hp, exec_ackp_read k hb' hp', h.readAndDiscard (by simp [hi])⟩
    | poll b e => exact ⟨_, _, exec_poll_read b e hb hp, exec_poll_read b e hb' hp', h.pollRead hi hp⟩
    | capture k => exact ⟨_, _, exec_capture_read k hb hp, exec_capture_read k hb' hp', h.captureRead hi⟩
    | _ => simp [hp, phaseFits] at hf
  | e =>
    rw [hp] at hp'
    cases i with
    | capture k => exact ⟨_, _, exec_capture_echo k hb hp, exec_capture_echo k hb' hp', h.captureEcho hi hp⟩
    | _ => simp [hp, phaseFits] at hf

end RunAlike

/-- Settles O50: both blocks make the micro-step of the step they stand at. -/
theorem commandDependsOnlyOnOperandAndAnswers : Obligations.CommandDependsOnlyOnOperandAndAnswers := by
  intro s s' h h' hr hr' hb hsame
  have hrun : RunAlike s s' := ⟨h, h', hb, hsame⟩
  obtain ⟨i, hi, hfits⟩ := h.running ((State.busy_iff s).1 hb)
  obtain ⟨t, t', ht, ht', ev, htrace, htrace', halike⟩ := hrun.exec_alike hi hfits
  exact ⟨t, t', ev, (step_of_currentStep hr hi).trans ht,
    (step_of_currentStep hr' (hrun.currentStep_eq ▸ hi)).trans ht', htrace, htrace', halike⟩

end Sys2Proof.Machine
